-- ==== Sys2Proof/Word.lean ====
section
/-!
DEFINITION. The word type of the model: every register word, core register and bus datum has `XLEN` = 32 bits
(00_scope.md rule R4, decision D2), and bit 0 is the least significant one (rule R5, decision D3).
-/

namespace Sys2Proof

/-- A 32-bit register word (R4, R7). -/
abbrev Word := BitVec 32

/-- One byte, used only to lay a word out in bytes (20_memory.md rule R62). -/
abbrev Byte := BitVec 8

/-- A 1-bit flag as a 1-bit vector, so that a register word is written as the spec writes it: a concatenation. -/
abbrev bit (b : Bool) : BitVec 1 := BitVec.ofBool b

end Sys2Proof
end

