-- ==== Sys2Proof/Config.lean ====
section
/-!
DEFINITION. What an implementation fixes: the parameters of 00_scope.md rule R4 with their defaults, and the free
values. The parameters are plain data held in `State.params`, so that a statement about every state is a statement
about every implementation; the free values are one opaque stream.
-/

namespace Sys2Proof.Config

/-- The n-th free value: the model's reading of `draw` (00_scope.md rule R7, decision D26), "a fresh value under no
law, one per use". It has no body, so nothing can be proved of any of its values. DESIGN CHOICE, log 5: safe. -/
opaque freeWord : Nat → Word

/-- `SBZP_POLICY` (R4, 10_state.md rule R13): what a write of 1 to a reserved bit does. -/
inductive SbzpPolicy where
  | refuse
  | ignore
  deriving DecidableEq, Repr

/-- `RO_MCR_POLICY` (R4, 30_encoding.md rule R85): what `MCR p14, 0, <Rd>, c0, c1, 0` does. -/
inductive RoMcrPolicy where
  | refuse
  | undefinedException
  deriving DecidableEq, Repr

/-- `APB_BYTE_ORDER` (R4, 20_memory.md rule R62). No rule uses it. -/
inductive ByteOrder where
  | littleEndian
  | bigEndian
  deriving DecidableEq, Repr

/-- One bit of the state `s` of 10_state.md rules R12 and R45, the argument of the predicates that rule R4 leaves open.
Every piece of `s` is a finite word or one of finitely many values, so these bits determine it. -/
inductive StateBit where
  | rxfull
  | txfull
  | rxfullL
  | txfullL
  | pipeadv
  | instrcomplL
  | instrcompl
  | extdccmode (i : Fin 2)
  | mdbgen
  | hdbgen
  | itren
  | udccdis
  | intdis
  | dbgack
  | undL
  | adabortL
  | sdabortL
  | moe (i : Fin 4)
  | dtrrx (i : Fin 32)
  | dtrtx (i : Fin 32)
  | itr (i : Fin 32)
  /-- `s.dbg = Halted`; `Normal` is neither this nor the next. -/
  | dbgHalted
  /-- `s.dbg = Exiting`. -/
  | dbgExiting
  | itrBusy
  | nonsecure
  /-- `s.mode = User`; `OtherPrivileged` is neither this nor the next. -/
  | modeUser
  /-- `s.mode = Monitor`. -/
  | modeMonitor
  | dbgen
  | niden
  | spiden
  | spniden
  /-- A `DtrTxWriteWhileFull` is in `s.fault`. -/
  | dtrTxFault
  /-- An `ItrenOutsideDebugState` is in `s.fault`. -/
  | itrenFault
  | reg (r : Fin 15) (i : Fin 32)
  | pc (i : Fin 32)
  deriving DecidableEq, Repr

/-- A predicate on the state as plain data: a truth function of its bits. Since finitely many bits determine `s`, every
predicate on `s` is one of these. It is the form of the OPEN predicates of rule R4 (decisions D28 and D30); log 37,
log 39. -/
inductive Condition where
  | always
  | bit (b : StateBit)
  | no (c : Condition)
  | both (c d : Condition)
  | either (c d : Condition)
  deriving DecidableEq, Repr

/-- `may_halt(s, cause)` (R4, 42_hardware_updates.md rule R153, decision D28): any predicate on the state for each
cause. That it implies DBGEN HIGH is not left to the parameter: `Machine.mayHalt` adds it. -/
structure HaltPolicy where
  haltRequest : Condition
  breakpoint : Condition
  bkptInstruction : Condition
  externalRequest : Condition
  vectorCatch : Condition
  syncWatchpoint : Condition
  deriving DecidableEq, Repr

/-- The parameters of rule R4 that the source leaves open. -/
structure Params where
  /-- `DBG_BASE`: byte address of offset 0 of the debug interface (R61). Any address: whether it must be word-aligned is
  left open by decision D6's wording, and the model does not require it. DESIGN CHOICE, log 15. -/
  dbgBase : Nat
  /-- `OFF_DTRRX` (R4). -/
  offDtrrx : Nat
  /-- `OFF_ITR` (R4). -/
  offItr : Nat
  /-- `OFF_DTRTX` (R4). -/
  offDtrtx : Nat
  /-- `OFF_DRCR` (R4). -/
  offDrcr : Nat
  sbzpPolicy : SbzpPolicy
  /-- `CP14_EXT_READ_LATCHES` (R102, decision D14). -/
  cp14ExtReadLatches : Bool
  /-- `INSTRCOMPL_TRACKS_IDLE` (R152, decision D16). -/
  instrcomplTracksIdle : Bool
  roMcrPolicy : RoMcrPolicy
  /-- `PC_STEP` (R45, decision D25), as wide as the model's pc: log 53. -/
  pcStep : Word
  apbByteOrder : ByteOrder
  /-- `DECODE_DTR_INT` (R83, decision D33). -/
  decodeDtrInt : Bool
  haltPolicy : HaltPolicy
  /-- `ack_by_state` (R161, decision D30). -/
  ackByState : Condition
  /-- `trigger_by_state` (R161, decision D30). -/
  triggerByState : Condition
  deriving DecidableEq, Repr

/-- `DSCR_APB_OFFSET` (R4): fixed by the source. -/
def dscrOffset : Nat := 0x88

/-- `halting_mode(s)` of 10_state.md rule R28 as a condition. -/
def Condition.haltingMode : Condition := .both (.bit .dbgen) (.bit .hdbgen)

/-- `s.dbg != Normal` as a condition. -/
def Condition.inDebugState : Condition := .either (.bit .dbgHalted) (.bit .dbgExiting)

/-- The defaults of rule R4. `DBG_BASE` has none; 0 is a DESIGN CHOICE, log 15. -/
def Params.defaults : Params where
  dbgBase := 0
  offDtrrx := 0x080
  offItr := 0x084
  offDtrtx := 0x08C
  offDrcr := 0x090
  sbzpPolicy := .refuse
  cp14ExtReadLatches := false
  instrcomplTracksIdle := true
  roMcrPolicy := .refuse
  pcStep := 4#32
  apbByteOrder := .littleEndian
  decodeDtrInt := false
  haltPolicy :=
    { haltRequest := .bit .dbgen, externalRequest := .bit .dbgen
      breakpoint := .haltingMode, bkptInstruction := .haltingMode
      vectorCatch := .haltingMode, syncWatchpoint := .haltingMode }
  ackByState := .inDebugState
  triggerByState := .inDebugState

end Sys2Proof.Config
end

