-- ==== Sys2Proof/Syntax.lean ====
section
/-!
DEFINITION. The syntax of every operation of spec/opcode_table.json, one constructor of `Instr` for each of its 18
rows, and what an agent presents to the decoder: an instruction word (30_encoding.md rule R82) or an access on the
memory-mapped interface (20_memory.md rules R61 to R64).
-/

namespace Sys2Proof

/-- The three External DCC access modes (10_state.md rule R21, 41_apb_access.md rule R122). -/
inductive DccMode where
  | nonblocking
  | stall
  | fast
  deriving DecidableEq, Repr

/-- One constructor for each row of spec/opcode_table.json. `rd` is the 4-bit number of `<Rd>` (R81), `v` the write
data of an APB access (R121, R124, R130, R135). -/
inductive Instr where
  /-- `MRC p14, 0, <Rd>, c0, c1, 0` (R101). -/
  | mrcDbgdscrint (rd : BitVec 4)
  /-- `MRC p14, 0, <Rd>, c0, c2, 2` (R102). -/
  | mrcDbgdscrext (rd : BitVec 4)
  /-- `MCR p14, 0, <Rd>, c0, c2, 2` (R103). -/
  | mcrDbgdscrext (rd : BitVec 4)
  /-- `MCR p14, 0, <Rd>, c0, c1, 0`: a write to the read-only view (R85). -/
  | mcrDbgdscrintRefused (rd : BitVec 4)
  /-- `MRC p14, 0, <Rd>, c0, c5, 0`, or the event `ReadDtrRxInt(Rd)` (R104). -/
  | mrcDbgdtrrxint (rd : BitVec 4)
  /-- `MCR p14, 0, <Rd>, c0, c5, 0`, or the event `WriteDtrTxInt(Rd)` (R105). -/
  | mcrDbgdtrtxint (rd : BitVec 4)
  /-- `ApbRead(0x88)` (R120). -/
  | apbRdDbgdscrext
  /-- `ApbWrite(0x88, v)` (R121). -/
  | apbWrDbgdscrext (v : Word)
  /-- `ApbWrite(OFF_DTRRX, v)` in Nonblocking mode (R124). -/
  | apbWrDbgdtrrxextNonblocking (v : Word)
  /-- `ApbWrite(OFF_DTRRX, v)` in Stall mode (R125). -/
  | apbWrDbgdtrrxextStall (v : Word)
  /-- `ApbWrite(OFF_DTRRX, v)` in Fast mode (R126). -/
  | apbWrDbgdtrrxextFast (v : Word)
  /-- `ApbRead(OFF_DTRTX)` in Nonblocking mode (R127). -/
  | apbRdDbgdtrtxextNonblocking
  /-- `ApbRead(OFF_DTRTX)` in Stall mode (R128). -/
  | apbRdDbgdtrtxextStall
  /-- `ApbRead(OFF_DTRTX)` in Fast mode (R129). -/
  | apbRdDbgdtrtxextFast
  /-- `ApbWrite(OFF_ITR, v)` in Nonblocking mode (R130). -/
  | apbWrDbgitrNonblocking (v : Word)
  /-- `ApbWrite(OFF_ITR, v)` in Stall mode (R131). -/
  | apbWrDbgitrStall (v : Word)
  /-- `ApbWrite(OFF_ITR, v)` in Fast mode (R132). -/
  | apbWrDbgitrFast (v : Word)
  /-- `ApbWrite(OFF_DRCR, v)` (R135). -/
  | apbWrDbgdrcr (v : Word)
  deriving DecidableEq, Repr

/-- The operands of an `MRC` or `MCR` to `p14` beside `<Rd>` (30_encoding.md rule R81): the tuple that addresses the
CP14 register space (20_memory.md rule R60 a). `read` is true for `MRC`. -/
structure Cp14Tuple where
  read : Bool
  opc1 : BitVec 3
  crn : BitVec 4
  crm : BitVec 4
  opc2 : BitVec 3
  deriving DecidableEq, Repr

/-- Direction of an access on the memory-mapped interface (R64). -/
inductive Direction where
  | read
  | write
  deriving DecidableEq, Repr

/-- Width of an access on the memory-mapped interface; only `word` is described by the source (R62, R63). -/
inductive AccessSize where
  | byte
  | halfword
  | word
  deriving DecidableEq, Repr

/-- One access the debugger makes on the memory-mapped interface (R60 b, R61, R64). `addr` is the byte address,
`data` the write data; a read carries no data and its `data` field is ignored. -/
structure Access where
  dir : Direction
  size : AccessSize
  addr : Nat
  data : Word
  deriving DecidableEq, Repr

/-- What an agent presents for decoding: an instruction word of the processor (R82) or an access of the debugger
(R84: "has no instruction encoding"). -/
inductive Encoding where
  | word (w : Word)
  | access (a : Access)
  deriving DecidableEq, Repr

end Sys2Proof
end

