-- ==== Sys2Proof/WellFormed.lean ====
section
/-!
DEFINITION. Well-formedness: which operand values the spec admits for an instruction (30_encoding.md rules R81, R86),
which accesses the memory-mapped interface defines (20_memory.md rules R62, R63), and what is required of the
parameters (00_scope.md rule R4, 92_eei_decisions.md D6). Every check is a Bool.
-/

namespace Sys2Proof

/-- "`Rd` in 0..14" (R45, R86); the refused form MCR_DBGDSCRint_refused puts no condition on `Rd` (R85). -/
def Instr.wf : Instr → Bool
  | .mrcDbgdscrint rd => rd != 15#4
  | .mrcDbgdscrext rd => rd != 15#4
  | .mcrDbgdscrext rd => rd != 15#4
  | .mcrDbgdscrintRefused _ => true
  | .mrcDbgdtrrxint rd => rd != 15#4
  | .mcrDbgdtrtxint rd => rd != 15#4
  | .apbRdDbgdscrext => true
  | .apbWrDbgdscrext _ => true
  | .apbWrDbgdtrrxextNonblocking _ => true
  | .apbWrDbgdtrrxextStall _ => true
  | .apbWrDbgdtrrxextFast _ => true
  | .apbRdDbgdtrtxextNonblocking => true
  | .apbRdDbgdtrtxextStall => true
  | .apbRdDbgdtrtxextFast => true
  | .apbWrDbgitrNonblocking _ => true
  | .apbWrDbgitrStall _ => true
  | .apbWrDbgitrFast _ => true
  | .apbWrDbgdrcr _ => true

/-- The ExtDCCmode value under which a row of the table is the access made; `none` for a row that no mode selects
(R84, R122). -/
def Instr.dccMode : Instr → Option DccMode
  | .mrcDbgdscrint _ => none
  | .mrcDbgdscrext _ => none
  | .mcrDbgdscrext _ => none
  | .mcrDbgdscrintRefused _ => none
  | .mrcDbgdtrrxint _ => none
  | .mcrDbgdtrtxint _ => none
  | .apbRdDbgdscrext => none
  | .apbWrDbgdscrext _ => none
  | .apbWrDbgdtrrxextNonblocking _ => some .nonblocking
  | .apbWrDbgdtrrxextStall _ => some .stall
  | .apbWrDbgdtrrxextFast _ => some .fast
  | .apbRdDbgdtrtxextNonblocking => some .nonblocking
  | .apbRdDbgdtrtxextStall => some .stall
  | .apbRdDbgdtrtxextFast => some .fast
  | .apbWrDbgitrNonblocking _ => some .nonblocking
  | .apbWrDbgitrStall _ => some .stall
  | .apbWrDbgitrFast _ => some .fast
  | .apbWrDbgdrcr _ => none

/-- Whether the instruction is one of the two DTR accesses, whose words are decoded only under `DECODE_DTR_INT`
(R83). -/
def Instr.isDtrInt : Instr → Bool
  | .mrcDbgdtrrxint _ => true
  | .mcrDbgdtrtxint _ => true
  | .mrcDbgdscrint _ => false
  | .mrcDbgdscrext _ => false
  | .mcrDbgdscrext _ => false
  | .mcrDbgdscrintRefused _ => false
  | .apbRdDbgdscrext => false
  | .apbWrDbgdscrext _ => false
  | .apbWrDbgdtrrxextNonblocking _ => false
  | .apbWrDbgdtrrxextStall _ => false
  | .apbWrDbgdtrrxextFast _ => false
  | .apbRdDbgdtrtxextNonblocking => false
  | .apbRdDbgdtrtxextStall => false
  | .apbRdDbgdtrtxextFast => false
  | .apbWrDbgitrNonblocking _ => false
  | .apbWrDbgitrStall _ => false
  | .apbWrDbgitrFast _ => false
  | .apbWrDbgdrcr _ => false

/-- An access the interface defines: an aligned 32-bit word inside it (R62, R63), its alignment measured from
`DBG_BASE` (log 15). -/
def Access.wf (base : Nat) (a : Access) : Bool :=
  decide (a.size = .word) && decide (base ≤ a.addr) && decide ((a.addr - base) % 4 = 0)

/-- "required distinct from each other and from 0x88 and word-aligned" (92_eei_decisions.md D6), asked of the four
offsets. Nothing is asked of `DBG_BASE`, aligned or not: DESIGN CHOICE, log 15. -/
def Config.Params.wf (p : Config.Params) : Bool :=
  decide ([Config.dscrOffset, p.offDtrrx, p.offItr, p.offDtrtx, p.offDrcr].Nodup)
    && [p.offDtrrx, p.offItr, p.offDtrtx, p.offDrcr].all (fun o => decide (o % 4 = 0))

end Sys2Proof
end

