-- ==== Sys2Proof/Decode.lean ====
section
/-!
DEFINITION. The decoder, total and rejecting by name (30_encoding.md rules R82 to R90, 20_memory.md rules R61 to R63),
and after it the encoder, written from the same tables. The bit layout of an instruction word is
[from general knowledge, not in source] (R82, 93_implementation_defined.md G4): PRESUMED, log 13.
-/

namespace Sys2Proof

/-- Why something presented to the decoder is no operation of the spec. -/
inductive DecodeError where
  /-- `refuse NotInScope` (R83, R90; 92_eei_decisions.md D6). -/
  | notInScope
  /-- `refuse RdIsPc` (R86). -/
  | rdIsPc
  /-- `refuse UnsupportedApbAccess` (20_memory.md rule R63). -/
  | unsupportedApbAccess
  /-- `refuse ReservedExtDCCmode`: a mode-governed access while ExtDCCmode = b11 (41_apb_access.md rule R136). -/
  | reservedExtDccMode
  deriving DecidableEq, Repr

/-- The mode an ExtDCCmode value selects; b11 is reserved (10_state.md rule R21, 41_apb_access.md rule R122). -/
def dccModeOf (m : BitVec 2) : Option DccMode :=
  if m = 0b00#2 then some .nonblocking
  else if m = 0b01#2 then some .stall
  else if m = 0b10#2 then some .fast
  else none

/-- The ExtDCCmode value of a mode (R21). -/
def DccMode.code : DccMode → BitVec 2
  | .nonblocking => 0b00#2
  | .stall => 0b01#2
  | .fast => 0b10#2

/-- The `Rd` field, bits [15:12] (R82). -/
def rdField (w : Word) : BitVec 4 := w.extractLsb' 12 4

/-- An instruction word with its `Rd` field cleared: what the mask 0xFFFF0FFF leaves (R82, "mask with cond fixed"). -/
def fixedField (w : Word) : Word := w &&& 0xFFFF0FFF#32

/-- The decoder of instruction words (R90): the three forms of R80 with `Rd` in 0..14, the refused forms of R85 and
R86, the two DTR accesses of R83 when `DECODE_DTR_INT` holds, and `NotInScope` for every other word. -/
def decodeWord (p : Config.Params) (w : Word) : Except DecodeError Instr :=
  let rd := rdField w
  let key := fixedField w
  if key = 0xEE100E11#32 then
    if rd = 15#4 then .error .rdIsPc else .ok (.mrcDbgdscrint rd)
  else if key = 0xEE100E52#32 then
    if rd = 15#4 then .error .rdIsPc else .ok (.mrcDbgdscrext rd)
  else if key = 0xEE000E52#32 then
    if rd = 15#4 then .error .rdIsPc else .ok (.mcrDbgdscrext rd)
  else if key = 0xEE000E11#32 then .ok (.mcrDbgdscrintRefused rd)
  else if key = 0xEE100E15#32 then
    if p.decodeDtrInt = true ∧ rd ≠ 15#4 then .ok (.mrcDbgdtrrxint rd) else .error .notInScope
  else if key = 0xEE000E15#32 then
    if p.decodeDtrInt = true ∧ rd ≠ 15#4 then .ok (.mcrDbgdtrtxint rd) else .error .notInScope
  else .error .notInScope

/-- A write of DBGDTRRXext is the row of the current mode (R84, R122); ExtDCCmode = b11 refuses it (R136). -/
def dtrrxWriteIn (mode : BitVec 2) (v : Word) : Except DecodeError Instr :=
  match dccModeOf mode with
  | some .nonblocking => .ok (.apbWrDbgdtrrxextNonblocking v)
  | some .stall => .ok (.apbWrDbgdtrrxextStall v)
  | some .fast => .ok (.apbWrDbgdtrrxextFast v)
  | none => .error .reservedExtDccMode

/-- A read of DBGDTRTXext is the row of the current mode (R84, R122, R136). -/
def dtrtxReadIn (mode : BitVec 2) : Except DecodeError Instr :=
  match dccModeOf mode with
  | some .nonblocking => .ok .apbRdDbgdtrtxextNonblocking
  | some .stall => .ok .apbRdDbgdtrtxextStall
  | some .fast => .ok .apbRdDbgdtrtxextFast
  | none => .error .reservedExtDccMode

/-- A write of DBGITR is the row of the current mode (R84, R122, R136). -/
def itrWriteIn (mode : BitVec 2) (v : Word) : Except DecodeError Instr :=
  match dccModeOf mode with
  | some .nonblocking => .ok (.apbWrDbgitrNonblocking v)
  | some .stall => .ok (.apbWrDbgitrStall v)
  | some .fast => .ok (.apbWrDbgitrFast v)
  | none => .error .reservedExtDccMode

/-- The register an offset and a direction name (R61, R84; 92_eei_decisions.md D6: every other offset is
`NotInScope`). -/
def decodeOffset (p : Config.Params) (mode : BitVec 2) (dir : Direction) (off : Nat) (v : Word) :
    Except DecodeError Instr :=
  match dir with
  | .read =>
    if off = Config.dscrOffset then .ok .apbRdDbgdscrext
    else if off = p.offDtrtx then dtrtxReadIn mode
    else .error .notInScope
  | .write =>
    if off = Config.dscrOffset then .ok (.apbWrDbgdscrext v)
    else if off = p.offDtrrx then dtrrxWriteIn mode v
    else if off = p.offItr then itrWriteIn mode v
    else if off = p.offDrcr then .ok (.apbWrDbgdrcr v)
    else .error .notInScope

/-- The decoder of the debugger's accesses: a narrow or misaligned one is `UnsupportedApbAccess` (R63), an address
below `DBG_BASE` is outside the interface (R61). Alignment is measured from `DBG_BASE`, which may itself be unaligned:
DESIGN CHOICE, log 15. -/
def decodeAccess (p : Config.Params) (mode : BitVec 2) (a : Access) : Except DecodeError Instr :=
  if a.size ≠ .word then .error .unsupportedApbAccess
  else if a.addr < p.dbgBase then .error .notInScope
  else if (a.addr - p.dbgBase) % 4 ≠ 0 then .error .unsupportedApbAccess
  else decodeOffset p mode a.dir (a.addr - p.dbgBase) a.data

/-- The decoder of whatever an agent presents; `mode` is the state's ExtDCCmode, "the mode is state, not part of the
address" (R84). -/
def decode (p : Config.Params) (mode : BitVec 2) : Encoding → Except DecodeError Instr
  | .word w => decodeWord p w
  | .access a => decodeAccess p mode a

/-! The encoder. -/

/-- The six CP14 tuples of the table (R81, R83): (c1, 0) is DBGDSCRint, (c2, 2) DBGDSCRext, (c5, 0) the DTR views. -/
def mrcDscrIntTuple : Cp14Tuple := { read := true, opc1 := 0#3, crn := 0#4, crm := 1#4, opc2 := 0#3 }
@[inherit_doc mrcDscrIntTuple]
def mrcDscrExtTuple : Cp14Tuple := { read := true, opc1 := 0#3, crn := 0#4, crm := 2#4, opc2 := 2#3 }
@[inherit_doc mrcDscrIntTuple]
def mcrDscrExtTuple : Cp14Tuple := { read := false, opc1 := 0#3, crn := 0#4, crm := 2#4, opc2 := 2#3 }
@[inherit_doc mrcDscrIntTuple]
def mcrDscrIntTuple : Cp14Tuple := { read := false, opc1 := 0#3, crn := 0#4, crm := 1#4, opc2 := 0#3 }
@[inherit_doc mrcDscrIntTuple]
def mrcDtrRxTuple : Cp14Tuple := { read := true, opc1 := 0#3, crn := 0#4, crm := 5#4, opc2 := 0#3 }
@[inherit_doc mrcDscrIntTuple]
def mcrDtrTxTuple : Cp14Tuple := { read := false, opc1 := 0#3, crn := 0#4, crm := 5#4, opc2 := 0#3 }

/-- The word of a tuple and an `Rd` by the bit layout of R82, from bit [31] down: cond = always, b1110, opc1, L, CRn, Rd,
coproc = 14, opc2, 1, CRm. -/
def encodeTuple (t : Cp14Tuple) (rd : BitVec 4) : Word :=
  0b1110#4 ++ 0b1110#4 ++ t.opc1 ++ bit t.read ++ t.crn ++ rd ++ 14#4 ++ t.opc2 ++ 1#1 ++ t.crm

/-- The assembler line of a tuple and an `Rd` (R80, R81, R89). -/
def assemblyOf (t : Cp14Tuple) (rd : BitVec 4) : String :=
  (if t.read then "MRC" else "MCR") ++ " p14, " ++ toString t.opc1.toNat ++ ", r" ++ toString rd.toNat
    ++ ", c" ++ toString t.crn.toNat ++ ", c" ++ toString t.crm.toNat ++ ", " ++ toString t.opc2.toNat

/-- The aligned word read at an offset (R61, R62); a read carries no data. -/
def readAt (p : Config.Params) (off : Nat) : Encoding :=
  .access { dir := .read, size := .word, addr := p.dbgBase + off, data := 0#32 }

/-- The aligned word write at an offset (R61, R62). -/
def writeAt (p : Config.Params) (off : Nat) (v : Word) : Encoding :=
  .access { dir := .write, size := .word, addr := p.dbgBase + off, data := v }

/-- What an agent presents to make the machine run an instruction (R82, R84). -/
def encode (p : Config.Params) : Instr → Encoding
  | .mrcDbgdscrint rd => .word (encodeTuple mrcDscrIntTuple rd)
  | .mrcDbgdscrext rd => .word (encodeTuple mrcDscrExtTuple rd)
  | .mcrDbgdscrext rd => .word (encodeTuple mcrDscrExtTuple rd)
  | .mcrDbgdscrintRefused rd => .word (encodeTuple mcrDscrIntTuple rd)
  | .mrcDbgdtrrxint rd => .word (encodeTuple mrcDtrRxTuple rd)
  | .mcrDbgdtrtxint rd => .word (encodeTuple mcrDtrTxTuple rd)
  | .apbRdDbgdscrext => readAt p Config.dscrOffset
  | .apbWrDbgdscrext v => writeAt p Config.dscrOffset v
  | .apbWrDbgdtrrxextNonblocking v => writeAt p p.offDtrrx v
  | .apbWrDbgdtrrxextStall v => writeAt p p.offDtrrx v
  | .apbWrDbgdtrrxextFast v => writeAt p p.offDtrrx v
  | .apbRdDbgdtrtxextNonblocking => readAt p p.offDtrtx
  | .apbRdDbgdtrtxextStall => readAt p p.offDtrtx
  | .apbRdDbgdtrtxextFast => readAt p p.offDtrtx
  | .apbWrDbgitrNonblocking v => writeAt p p.offItr v
  | .apbWrDbgitrStall v => writeAt p p.offItr v
  | .apbWrDbgitrFast v => writeAt p p.offItr v
  | .apbWrDbgdrcr v => writeAt p p.offDrcr v

/-- Whether an instruction is the one its encoding stands for under these parameters and this mode: its operands are
well formed, a DTR word needs `DECODE_DTR_INT` (R83), and a mode-governed access needs its mode (R84). -/
def Instr.encodable (p : Config.Params) (mode : BitVec 2) (i : Instr) : Bool :=
  i.wf && (!i.isDtrInt || p.decodeDtrInt)
    && (match i.dccMode with
        | none => true
        | some m => decide (mode = m.code))

/-! Words numbered as spec/opcode_table.json numbers them. -/

/-- The table's parameters: the defaults, with the two DTR words decoded, since the table has rows for them
(R83; log 14). -/
def tableParams : Config.Params := { Config.Params.defaults with decodeDtrInt := true }

/-- A table row of format `APB` gives bits [11:0], the byte offset, and neither a direction nor a mode. DESIGN CHOICE,
log 17: the read where the offset has one, the mode after reset (Nonblocking), write data 0. -/
def decodeTableOffset (off : Nat) : Option Instr :=
  if off = Config.dscrOffset ∨ off = tableParams.offDtrtx then
    (decodeOffset tableParams 0b00#2 .read off 0#32).toOption
  else (decodeOffset tableParams 0b00#2 .write off 0#32).toOption

/-- The instruction the decoder reads from the bits `w` of a table row: an instruction word where the row has one
(format ARM_MRC_MCR, 32 bits), otherwise an offset of the debug register block (format APB, bits [11:0]). -/
def decodeTableWord (nbits w : Nat) : Option Instr :=
  if nbits ≤ 16 then decodeTableOffset (w % 4096)
  else
    match decodeWord tableParams (BitVec.ofNat 32 w) with
    | .ok i => some i
    | .error _ => if w < 4096 then decodeTableOffset w else none

end Sys2Proof
end

