-- ==== Sys2Proof/Machine/State.lean ====
section
/-!
DEFINITION. The state of the machine (10_state.md rules R12, R43 to R45, R48), its faults and refusals, and the state
after reset. Every piece is plain data; what INVENTORY.md lists under State is what stands here.
-/

namespace Sys2Proof.Machine

/-- The stored fields of DBGDSCR (10_state.md rule R12) and the internal flag InstrCompl (R20). A bit of the register
that is not here is computed (R13, R22 to R25, R37, R38). -/
structure Dscr where
  /-- Bit [30], RXfull (R14). -/
  rxfull : Bool
  /-- Bit [29], TXfull (R15). -/
  txfull : Bool
  /-- RXfull_l, the stored latch (R16). -/
  rxfullL : Bool
  /-- TXfull_l, the stored latch (R17). -/
  txfullL : Bool
  /-- Bit [25], Sticky pipeline advance (R18). -/
  pipeadv : Bool
  /-- InstrCompl_l, the stored latch (R19). -/
  instrcomplL : Bool
  /-- InstrCompl, not a bit of the register (R20). -/
  instrcompl : Bool
  /-- Bits [21:20], ExtDCCmode (R21). -/
  extdccmode : BitVec 2
  /-- The programmed value of bit [15], Monitor debug-mode (R26). -/
  mdbgen : Bool
  /-- The programmed value of bit [14], Halting debug-mode (R27). -/
  hdbgen : Bool
  /-- Bit [13], Execute instruction enable (R29). -/
  itren : Bool
  /-- Bit [12], CP14 user access disable (R30). -/
  udccdis : Bool
  /-- Bit [11], Interrupt disable (R31). -/
  intdis : Bool
  /-- Bit [10], DbgAck (R32). -/
  dbgack : Bool
  /-- Bit [8], Sticky Undefined (R33). -/
  undL : Bool
  /-- Bit [7], Sticky asynchronous abort (R34). -/
  adabortL : Bool
  /-- Bit [6], Sticky synchronous abort (R35). -/
  sdabortL : Bool
  /-- Bits [5:2], MOE (R36). -/
  moe : BitVec 4
  deriving DecidableEq, Repr

/-- The neighbouring registers (R43): DBGDTRRX, DBGDTRTX, DBGITR. -/
structure Dcc where
  dtrrx : Word
  dtrtx : Word
  itr : Word
  deriving DecidableEq, Repr

/-- `s.dbg` (R44 a): `halted` and `exiting` are both debug state. -/
inductive DbgStatus where
  | normal
  | halted
  | exiting
  deriving DecidableEq, Repr

/-- `s.mode` (R44 c): the only distinctions the register makes (60_exceptions.md rule R188). -/
inductive Mode where
  | user
  | monitor
  | otherPrivileged
  deriving DecidableEq, Repr

/-- The exceptions the source names as taken by the processor (60_exceptions.md rules R180, R181, R183). -/
inductive Exception where
  /-- Undefined instruction exception (R180). -/
  | undefinedInstruction
  /-- The Prefetch Abort or Data Abort of a debug exception; the source does not say which (R181). -/
  | debugAbort
  /-- IRQ (R183). -/
  | irq
  /-- FIQ (R183). -/
  | fiq
  deriving DecidableEq, Repr

/-- How the processor's last instruction or exception ended: "either completes or raises" (20_memory.md rule R64);
`trap` is the outcome `Trap(...)` of 60_exceptions.md rule R180. -/
inductive CpuResult where
  | none
  | completed
  | trap (e : Exception)
  deriving DecidableEq, Repr

/-- The processor as the register sees it (R44, R45). The width of the pc is the model's choice: log 53. -/
structure Cpu where
  /-- General registers r0 to r14 (R45). -/
  x : Vector Word 15
  /-- Program counter (R45). Its width, 32 bits, and that `pc + PC_STEP` wraps modulo 2^32 are not in the source (N28):
  PRESUMED, log 53. -/
  pc : Word
  dbg : DbgStatus
  /-- The instruction word fetched from DBGITR that has not finished; `s.itr_busy` (R44 b) is "there is one". -/
  issued : Option Word
  nonsecure : Bool
  mode : Mode
  result : CpuResult
  deriving DecidableEq, Repr

/-- The authentication input signals (R44 d), HIGH = true (R6). -/
structure Pins where
  dbgen : Bool
  niden : Bool
  spiden : Bool
  spniden : Bool
  deriving DecidableEq, Repr

/-- `s.fault`, a set of fault reasons that is never cleared (R7, R12): one Bool for each reason of the spec. -/
structure FaultSet where
  /-- `Unpredictable(DtrTxWriteWhileFull)` (40_cp14_access.md rule R105). -/
  dtrTxWriteWhileFull : Bool
  /-- `Unpredictable(ItrenOutsideDebugState)` (42_hardware_updates.md rule R162). -/
  itrenOutsideDebugState : Bool
  deriving DecidableEq, Repr

/-- The result of an APB primitive (20_memory.md rule R64); the read data is absent for a write. -/
inductive ApbResult where
  | ok (data : Option Word)
  | ignored (data : Option Word)
  | stalled
  deriving DecidableEq, Repr

/-- A Stall-mode access that the debugger has issued and that has not completed (20_memory.md rule R71, 41_apb_access.md
rule R123). It is named by what it does, since a later change of ExtDCCmode is for the next access (R121 b). -/
inductive StalledAccess where
  /-- R125. -/
  | dtrrxWrite (v : Word)
  /-- R128. -/
  | dtrtxRead
  /-- R128: a read whose stall a reset of the register has ended. The debugger's next turn answers it. -/
  | dtrtxReadEnded
  /-- R131. -/
  | itrWrite (v : Word)
  deriving DecidableEq, Repr

/-- `cause` of 42_hardware_updates.md rule R153. -/
inductive Cause where
  | haltRequest
  | breakpoint
  | bkptInstruction
  | externalRequest
  | vectorCatch
  | syncWatchpoint
  deriving DecidableEq, Repr

/-- `sig` of 42_hardware_updates.md rule R160. -/
inductive Signal where
  | dbgen
  | niden
  | spiden
  | spniden
  deriving DecidableEq, Repr

/-- The two interrupt inputs (60_exceptions.md rule R183). -/
inductive Interrupt where
  | irq
  | fiq
  deriving DecidableEq, Repr

/-- The events of the processor and of the environment that are not accesses (42_hardware_updates.md,
60_exceptions.md, 70_reset_and_hazards.md), and the two DTR accesses as events without a word (R104, R105). -/
inductive Event where
  /-- R150. -/
  | retire
  /-- R151. -/
  | itrDone
  /-- R152. -/
  | itrIdle
  /-- R153. -/
  | enterDebugState (cause : Cause)
  /-- R154. -/
  | restartRequest
  /-- R155. -/
  | exitDebugState
  /-- R156. -/
  | undefinedInDebugState
  /-- R157. -/
  | syncDataAbortInDebugState
  /-- R158. -/
  | asyncAbortInDebugState
  /-- R159. -/
  | processorStatusChange (nonsecure : Bool) (mode : Mode)
  /-- R160. -/
  | signalChange (sig : Signal) (level : Bool)
  /-- R181. -/
  | debugException (cause : Cause)
  /-- R183: the processor takes the interrupt. -/
  | interrupt (line : Interrupt)
  /-- R200. -/
  | reset (proc : Bool) (dbg : Bool)
  /-- `ReadDtrRxInt(Rd)` (R104). -/
  | readDtrRxInt (rd : BitVec 4)
  /-- `WriteDtrTxInt(Rd)` (R105). -/
  | writeDtrTxInt (rd : BitVec 4)
  deriving DecidableEq, Repr

/-- The three kinds of agent (00_scope.md rule R2): `hardware` delivers the events. -/
inductive Agent where
  | processor
  | debugger
  | hardware
  deriving DecidableEq, Repr

/-- What the agents still have to do, each agent's own steps in its program order, and whose turn each next step is
(00_scope.md rule R3: "steps of different agents interleave in any order"). Inputs from outside; log 6. -/
structure Agenda where
  schedule : List Agent
  /-- The instruction words the processor fetches next outside debug state. -/
  program : List Word
  /-- The accesses the debugger makes next, none of them while one is stalled (20_memory.md rule R71). -/
  accesses : List Access
  events : List Event
  deriving DecidableEq, Repr

/-- The machine's state. -/
structure State where
  dscr : Dscr
  dcc : Dcc
  cpu : Cpu
  pins : Pins
  /-- A DRCR[0] halting debug event that has been raised and not yet taken (R135, R153). -/
  haltRequest : Bool
  /-- The result of the debugger's last access (R64). -/
  apbResult : Option ApbResult
  /-- The debugger's stalled access, if it has one (20_memory.md rule R71, 41_apb_access.md rule R123; log 36). -/
  stalledAccess : Option StalledAccess
  faults : FaultSet
  agenda : Agenda
  /-- How many free values have been used: the MODEL's own field (R7 `draw`, log 5). -/
  draws : Nat
  params : Config.Params
  deriving DecidableEq, Repr

/-- Where a step does not exist. All three are safe: the model makes no claim past them (log 48). -/
inductive Fault where
  /-- Raised by `step` when no agent's turn is scheduled. Safe. -/
  | noTurn
  /-- Raised by an agent's turn when that agent has nothing it can do: an empty queue, or a processor in debug state
  with no issued instruction (42_hardware_updates.md rule R153 b). Safe. -/
  | nothingToDo (a : Agent)
  /-- Raised by the hardware's turn when the event's precondition fails: "not enabled" (file 42). Safe. -/
  | notEnabled (e : Event)
  deriving DecidableEq, Repr

/-- `refuse <reason>` (00_scope.md rule R7): the spec gives the step no meaning. All are safe. -/
inductive Refusal where
  /-- Raised by `exec` for a constructor that has no meaning yet. Safe. -/
  | notModelled (mnemonic : String)
  /-- Raised by the decoder: `refuse NotInScope` (R83, R90, R106, D6). Safe. -/
  | notInScope
  /-- Raised by the decoder and by CP14 meanings: `refuse RdIsPc` (R86). Safe. -/
  | rdIsPc
  /-- Raised by the decoder: `refuse UnsupportedApbAccess` (R63). Safe. -/
  | unsupportedApbAccess
  /-- Raised by `MCR p14, 0, <Rd>, c0, c1, 0`: `refuse ReadOnlyView` (R85). Safe. -/
  | readOnlyView
  /-- Raised by the permission check: `refuse UserAccessToExtendedView` (R100). Safe. -/
  | userAccessToExtendedView
  /-- Raised by a write of DBGDSCRext: `refuse SbzpViolation` (R13). Safe. -/
  | sbzpViolation
  /-- Raised by a write of DBGDSCRext and by mode-governed accesses: `refuse ReservedExtDCCmode` (R42, R136). Safe. -/
  | reservedExtDccMode
  /-- Raised by Fast-mode accesses: `refuse FastModeNotReady` (R126, R129, R132). Safe. -/
  | fastModeNotReady
  /-- Raised by writes of DBGITR: `refuse ItrWriteWithItrenClear` (R130, R131). Safe. -/
  | itrWriteWithItrenClear
  /-- Raised by a mode-governed meaning in a state whose ExtDCCmode selects another row of the table: the access is
  then that other row (R84, R122), and no step answers this. Safe. Log 18. -/
  | modeNotSelected
  deriving DecidableEq, Repr

/-- The stored fields at reset (10_state.md rule R48). RXfull_l and TXfull_l have no value in the source: 0 is a
DESIGN CHOICE, log 1. -/
def Dscr.reset : Dscr where
  rxfull := false
  txfull := false
  rxfullL := false
  txfullL := false
  pipeadv := false
  instrcomplL := false
  instrcompl := false
  extdccmode := 0b00#2
  mdbgen := false
  hdbgen := false
  itren := false
  udccdis := false
  intdis := false
  dbgack := false
  undL := false
  adabortL := false
  sdabortL := false
  moe := 0b0000#4

/-- The machine right after reset: "a model's initial state is the state after `Reset(true, true)` with `s.fault`
empty" (70_reset_and_hazards.md rule R200). What the spec gives no value is a DESIGN CHOICE: log 1 (DBGDTRRX,
DBGDTRTX, DBGITR), log 2 (r0 to r14, pc), log 3 (security state and mode), log 4 (signals), log 6 (queues and
results), log 15 (DBG_BASE), log 36 (no access is stalled), log 42 (no halt request is pending). -/
def State.reset : State where
  dscr := Dscr.reset
  dcc := { dtrrx := 0#32, dtrtx := 0#32, itr := 0#32 }
  cpu :=
    { x := Vector.replicate 15 0#32
      pc := 0#32
      dbg := .normal
      issued := none
      nonsecure := false
      mode := .otherPrivileged
      result := .none }
  pins := { dbgen := true, niden := true, spiden := true, spniden := true }
  haltRequest := false
  apbResult := none
  stalledAccess := none
  faults := { dtrTxWriteWhileFull := false, itrenOutsideDebugState := false }
  agenda := { schedule := [], program := [], accesses := [], events := [] }
  draws := 0
  params := Config.Params.defaults

end Sys2Proof.Machine
end

