-- ==== Sys2Proof/Machine/Flags.lean ====
section
/-!
DEFINITION. Everything the spec computes from the state and never stores: the status bits of DBGDSCR (10_state.md
rules R22 to R25, R37, R38), the effective debug mode (R28), the interrupt mask (R31), the debug-event conditions and
codes (42_hardware_updates.md rule R153, 60_exceptions.md rules R181, R182) and the outputs (42_hardware_updates.md
rule R161).
-/

namespace Sys2Proof.Machine

/-- `s.itr_busy` (R44 b): an instruction fetched from DBGITR has not finished. -/
def itrBusy (s : State) : Bool := s.cpu.issued.isSome

/-- The processor is in debug state: `s.dbg != Normal` (R38, R44 a). -/
def inDebugState (s : State) : Bool := decide (s.cpu.dbg ≠ .normal)

/-- Bit [19], Discard asynchronous abort (R22). -/
def adadiscard (s : State) : Bool := inDebugState s

/-- Bit [18], Non-secure state status (R23). -/
def ns (s : State) : Bool := s.cpu.nonsecure && decide (s.cpu.mode ≠ .monitor)

/-- Bit [17], Secure privileged noninvasive debug disabled (R24). -/
def spniddis (s : State) : Bool :=
  !((s.pins.niden || s.pins.dbgen) && (s.pins.spniden || s.pins.spiden))

/-- Bit [16], Secure privileged invasive debug disabled (R25). -/
def spiddis (s : State) : Bool := !(s.pins.dbgen && s.pins.spiden)

/-- Bit [6] of the Authentication Status Register, the inverse of bit [17] (R43). -/
def authstatus6 (s : State) : Bool := !spniddis s

/-- Bit [4] of the Authentication Status Register, the inverse of bit [16] (R43). -/
def authstatus4 (s : State) : Bool := !spiddis s

/-- Bit [1], Core restarted (R37, decision D21). -/
def restarted (s : State) : Bool := decide (s.cpu.dbg ≠ .exiting)

/-- Bit [0], Core halted (R38). -/
def halted (s : State) : Bool := inDebugState s

/-- Halting debug-mode is the effective mode (R28). -/
def haltingMode (s : State) : Bool := s.pins.dbgen && s.dscr.hdbgen

/-- Monitor debug-mode is the effective mode (R28). -/
def monitorMode (s : State) : Bool := s.pins.dbgen && s.dscr.mdbgen && !s.dscr.hdbgen

/-- Neither debug mode is in effect (R28). -/
def noDebugMode (s : State) : Bool := !haltingMode s && !monitorMode s

/-- `interrupts_disabled(s)` (R31). -/
def interruptsDisabled (s : State) : Bool :=
  s.dscr.intdis && s.pins.dbgen && !(!s.dscr.mdbgen && !s.dscr.hdbgen)

/-- `moe_code(cause)` (60_exceptions.md rule R182). -/
def moeCode : Cause → BitVec 4
  | .haltRequest => 0b0000#4
  | .breakpoint => 0b0001#4
  | .bkptInstruction => 0b0011#4
  | .externalRequest => 0b0100#4
  | .vectorCatch => 0b0101#4
  | .syncWatchpoint => 0b1010#4

/-- The halting debug events (60_exceptions.md rule R182, last column). -/
def isHaltingEvent : Cause → Bool
  | .haltRequest => true
  | .externalRequest => true
  | .breakpoint => false
  | .bkptInstruction => false
  | .vectorCatch => false
  | .syncWatchpoint => false

/-- The value of one bit of the state (10_state.md rules R12, R45). -/
def stateBit (s : State) : Config.StateBit → Bool
  | .rxfull => s.dscr.rxfull
  | .txfull => s.dscr.txfull
  | .rxfullL => s.dscr.rxfullL
  | .txfullL => s.dscr.txfullL
  | .pipeadv => s.dscr.pipeadv
  | .instrcomplL => s.dscr.instrcomplL
  | .instrcompl => s.dscr.instrcompl
  | .extdccmode i => s.dscr.extdccmode.getLsb i
  | .mdbgen => s.dscr.mdbgen
  | .hdbgen => s.dscr.hdbgen
  | .itren => s.dscr.itren
  | .udccdis => s.dscr.udccdis
  | .intdis => s.dscr.intdis
  | .dbgack => s.dscr.dbgack
  | .undL => s.dscr.undL
  | .adabortL => s.dscr.adabortL
  | .sdabortL => s.dscr.sdabortL
  | .moe i => s.dscr.moe.getLsb i
  | .dtrrx i => s.dcc.dtrrx.getLsb i
  | .dtrtx i => s.dcc.dtrtx.getLsb i
  | .itr i => s.dcc.itr.getLsb i
  | .dbgHalted => decide (s.cpu.dbg = .halted)
  | .dbgExiting => decide (s.cpu.dbg = .exiting)
  | .itrBusy => itrBusy s
  | .nonsecure => s.cpu.nonsecure
  | .modeUser => decide (s.cpu.mode = .user)
  | .modeMonitor => decide (s.cpu.mode = .monitor)
  | .dbgen => s.pins.dbgen
  | .niden => s.pins.niden
  | .spiden => s.pins.spiden
  | .spniden => s.pins.spniden
  | .dtrTxFault => s.faults.dtrTxWriteWhileFull
  | .itrenFault => s.faults.itrenOutsideDebugState
  | .reg r i => (s.cpu.x[r]).getLsb i
  | .pc i => s.cpu.pc.getLsb i

/-- Whether a condition holds in a state. -/
def holdsIn (s : State) : Config.Condition → Bool
  | .always => true
  | .bit b => stateBit s b
  | .no c => !holdsIn s c
  | .both c d => holdsIn s c && holdsIn s d
  | .either c d => holdsIn s c || holdsIn s d

/-- The condition the parameters set for a cause (R153). -/
def haltCondition (p : Config.Params) : Cause → Config.Condition
  | .haltRequest => p.haltPolicy.haltRequest
  | .breakpoint => p.haltPolicy.breakpoint
  | .bkptInstruction => p.haltPolicy.bkptInstruction
  | .externalRequest => p.haltPolicy.externalRequest
  | .vectorCatch => p.haltPolicy.vectorCatch
  | .syncWatchpoint => p.haltPolicy.syncWatchpoint

/-- `may_halt(s, cause)`, "required to imply `s.DBGEN = 1`" (42_hardware_updates.md rule R153, decision D28): the
parameter's predicate where DBGEN is HIGH. -/
def mayHalt (s : State) (c : Cause) : Bool :=
  s.pins.dbgen && holdsIn s (haltCondition s.params c)

/-- The output DBGACK (42_hardware_updates.md rule R161). -/
def dbgackOut (s : State) : Bool := s.dscr.dbgack || holdsIn s s.params.ackByState

/-- The output DBGTRIGGER (42_hardware_updates.md rule R161). -/
def dbgtriggerOut (s : State) : Bool := s.dscr.dbgack || holdsIn s s.params.triggerByState

/-- "`s.itren = 1` while `s.dbg = Normal`": the condition of 42_hardware_updates.md rule R162. -/
def itrenOutsideDebugState (s : State) : Bool := s.dscr.itren && !inDebugState s

end Sys2Proof.Machine
end

