-- ==== Sys2Proof/Machine/Operands.lean ====
section
/-!
DEFINITION. The operand forms: the core register `<Rd>` (10_state.md rule R45), the word a read of DBGDSCR returns
through each view (R41), the fields of the word a write of DBGDSCRext supplies (R42) and the bits of a DBGDRCR write
(41_apb_access.md rule R135).
-/

namespace Sys2Proof.Machine

/-- `x[Rd]`, read (R45). `Rd` = 15 is refused before any read (R86). -/
def readReg (s : State) (rd : BitVec 4) : Word :=
  if h : rd.toNat < 15 then s.cpu.x[rd.toNat] else 0#32

/-- `x[Rd] <- v` (R45); no other register changes. `Rd` = 15 is refused before any write (R86). -/
def writeReg (rd : BitVec 4) (v : Word) (s : State) : State :=
  { s with cpu := { s.cpu with x := s.cpu.x.setIfInBounds rd.toNat v } }

/-- The 32-bit word of 10_state.md rule R41: `common(s)` with bits [27], [26], [24] as given, written from bit [31]
down to bit [0]. Reserved bits read 0 (R13); bits [15] and [14] are masked by DBGEN (R26, R27). -/
def viewWord (s : State) (b27 b26 b24 : Bool) : Word :=
  0#1 ++ bit s.dscr.rxfull ++ bit s.dscr.txfull ++ 0#1 ++ bit b27 ++ bit b26 ++ bit s.dscr.pipeadv ++ bit b24
    ++ 0#2 ++ s.dscr.extdccmode ++ bit (adadiscard s) ++ bit (ns s) ++ bit (spniddis s) ++ bit (spiddis s)
    ++ bit (s.pins.dbgen && s.dscr.mdbgen) ++ bit (s.pins.dbgen && s.dscr.hdbgen)
    ++ bit s.dscr.itren ++ bit s.dscr.udccdis ++ bit s.dscr.intdis ++ bit s.dscr.dbgack ++ 0#1
    ++ bit s.dscr.undL ++ bit s.dscr.adabortL ++ bit s.dscr.sdabortL ++ s.dscr.moe
    ++ bit (restarted s) ++ bit (halted s)

/-- `view_int(s)` (R41): bits [27], [26] and [24] are drawn, each independently. -/
def viewInt (s : State) (d27 d26 d24 : Bool) : Word := viewWord s d27 d26 d24

/-- `view_ext_cp14(s)` (R41): bits [27] and [26] are RXfull and TXfull, bit [24] is drawn. -/
def viewExtCp14 (s : State) (d24 : Bool) : Word := viewWord s s.dscr.rxfull s.dscr.txfull d24

/-- `view_ext_apb(s)` (R41): bit [24] is InstrCompl in debug state and drawn otherwise. -/
def viewExtApb (s : State) (d24 : Bool) : Word :=
  viewWord s s.dscr.rxfull s.dscr.txfull (if inDebugState s then s.dscr.instrcompl else d24)

/-- A 1 in a reserved position of write data: bits [31], [28], [23], [22], [9] (R13). -/
def hasReservedOne (v : Word) : Bool :=
  v.getLsbD 31 || v.getLsbD 28 || v.getLsbD 23 || v.getLsbD 22 || v.getLsbD 9

/-- The ExtDCCmode field of write data, `v[21:20]` (R42). -/
def dataExtDccMode (v : Word) : BitVec 2 := v.extractLsb' 20 2

/-- The MOE field of write data, `v[5:2]` (R42). -/
def dataMoe (v : Word) : BitVec 4 := v.extractLsb' 2 4

/-- The eight read and write fields take their write data (R42 step 3); no other field changes (R40). -/
def Dscr.withControls (d : Dscr) (v : Word) : Dscr :=
  { d with
    extdccmode := dataExtDccMode v
    mdbgen := v.getLsbD 15
    hdbgen := v.getLsbD 14
    itren := v.getLsbD 13
    udccdis := v.getLsbD 12
    intdis := v.getLsbD 11
    dbgack := v.getLsbD 10
    moe := dataMoe v }

/-- Bit [3] of a DBGDRCR write: clear Sticky pipeline advance (41_apb_access.md rule R135, decision D20). -/
def drcrClearsPipeadv (v : Word) : Bool := v.getLsbD 3

/-- Bit [2] of a DBGDRCR write: clear the three sticky exception bits (R135). -/
def drcrClearsSticky (v : Word) : Bool := v.getLsbD 2

/-- Bit [0] of a DBGDRCR write: raise the halting debug event `HaltRequest` (R135). -/
def drcrRequestsHalt (v : Word) : Bool := v.getLsbD 0

/-- The four bytes of a word on the memory-mapped interface, lowest address first (20_memory.md rule R62). No rule
depends on the order: every access moves a whole word. -/
def apbBytes (order : Config.ByteOrder) (v : Word) : List Byte :=
  let le := [v.extractLsb' 0 8, v.extractLsb' 8 8, v.extractLsb' 16 8, v.extractLsb' 24 8]
  match order with
  | .littleEndian => le
  | .bigEndian => le.reverse

end Sys2Proof.Machine
end

