-- ==== Sys2Proof/Machine/Ops.lean ====
section
/-!
DEFINITION. The named operations every meaning and every event is built from: free values, the permission check and
retirement of the CP14 accesses (40_cp14_access.md rules R100, R107), taking an exception (60_exceptions.md rule R180)
and its counterparts, the write of DBGDSCRext (10_state.md rule R42), the data transfer registers (41_apb_access.md
rule R122), the issue and the completion of an instruction from DBGITR (R134, 42_hardware_updates.md rule R151), and
the access modes (R122, R136).
-/

namespace Sys2Proof.Machine

/-- What a meaning answers. -/
abbrev Outcome := Host.Outcome State Fault Refusal

/-- The next state of an outcome changed by `f`; a fault or a refusal stays. -/
def mapNext (f : State → State) (o : Outcome) : Outcome :=
  match o with
  | .next s => .next (f s)
  | .fault r => .fault r
  | .refused r => .refused r

/-- The refusal of the same name as a decoder's rejection. -/
def refusalOf : DecodeError → Refusal
  | .notInScope => .notInScope
  | .rdIsPc => .rdIsPc
  | .unsupportedApbAccess => .unsupportedApbAccess
  | .reservedExtDccMode => .reservedExtDccMode

/-! Free values: `draw(n)` of 00_scope.md rule R7, log 5. -/

/-- The k-th free word a step uses: `draw(XLEN)`. -/
def drawnWord (s : State) (k : Nat) : Word := Config.freeWord (s.draws + k)

/-- The k-th free bit a step uses: `draw(1)`. -/
def drawnBit (s : State) (k : Nat) : Bool := (drawnWord s k).getLsbD 0

/-- After a step has used `k` free values, the next step uses others. -/
def useDraws (k : Nat) (s : State) : State := { s with draws := s.draws + k }

/-! Faults that are recorded and never cleared (00_scope.md rule R7). -/

/-- `fault Unpredictable(DtrTxWriteWhileFull)` (40_cp14_access.md rule R105). -/
def recordDtrTxFault (s : State) : State :=
  { s with faults := { s.faults with dtrTxWriteWhileFull := true } }

/-- The check of 42_hardware_updates.md rule R162, made after every step: `s.itren = 1` with `s.dbg = Normal` records
`fault Unpredictable(ItrenOutsideDebugState)`. -/
def checkItren (s : State) : State :=
  { s with faults :=
      { s.faults with itrenOutsideDebugState := s.faults.itrenOutsideDebugState || itrenOutsideDebugState s } }

/-! Completion, exceptions and return. -/

/-- `ItrDone` (42_hardware_updates.md rule R151): InstrCompl is set, its latched copy is not. -/
def itrDone (s : State) : State :=
  { s with cpu := { s.cpu with issued := none }, dscr := { s.dscr with instrcompl := true } }

/-- An exception in debug state "ends the issued instruction (`ItrDone`)" (60_exceptions.md rule R185): the instruction
fetched from DBGITR is finished, if there is one. -/
def endIssued (s : State) : State := if itrBusy s then itrDone s else s

/-- Retirement of a completed CP14 instruction (40_cp14_access.md rule R107): Sticky pipeline advance is set; an
instruction fetched from DBGITR ends in `ItrDone`, any other advances the pc by `PC_STEP`. -/
def retire (s : State) : State :=
  let s := { s with dscr := { s.dscr with pipeadv := true }, cpu := { s.cpu with result := .completed } }
  if itrBusy s then itrDone s
  else { s with cpu := { s.cpu with pc := s.cpu.pc + s.params.pcStep } }

/-- Control passes to an address the source does not give (60_exceptions.md rules R180, R181, R187,
70_reset_and_hazards.md rule R201): the pc becomes a free value. DESIGN CHOICE, log 9: safe. -/
def jumpAnywhere (s : State) : State :=
  useDraws 1 { s with cpu := { s.cpu with pc := drawnWord s 0 } }

/-- Taking an exception, as far as the source describes it (60_exceptions.md rules R180, R181, R183, R185, R187): the
outcome is `Trap(e)`; outside debug state control passes to a handler whose address the source does not give; in debug
state there is no mode change and no vector (decision D32). The source gives no entry sequence (R187, N8): that r0 to
r14, the mode and the security state stay is the model's. DESIGN CHOICE, log 46 and log 55: unsafe. -/
def takeException (e : Exception) (s : State) : State :=
  let s := { s with cpu := { s.cpu with result := .trap e } }
  if inDebugState s then s else jumpAnywhere s

/-- `raise UndefinedInstruction` (60_exceptions.md rule R180): Sticky pipeline advance may be set (R107), Sticky
Undefined is set in debug state (42_hardware_updates.md rule R156), the exception is taken, and an instruction
fetched from DBGITR is finished (R134, R151). -/
def raiseUndefined (s : State) : State :=
  let s := useDraws 1
    { s with dscr :=
        { s.dscr with
          pipeadv := s.dscr.pipeadv || drawnBit s 0
          undL := s.dscr.undL || inDebugState s } }
  endIssued (takeException .undefinedInstruction s)

/-- Debug state is entered (42_hardware_updates.md rule R153): the one entry the source describes (R187). "What else entry
does to the processor is outside the source" (R153 b): that the pc, r0 to r14, the mode, the security state and the last
result stay is the model's. DESIGN CHOICE, log 54: unsafe. -/
def enterDebug (c : Cause) (s : State) : State :=
  { s with
    cpu := { s.cpu with dbg := .halted }
    dscr := { s.dscr with moe := moeCode c }
    haltRequest := s.haltRequest && decide (c ≠ .haltRequest) }

/-- Debug state is left (42_hardware_updates.md rule R155): the one return the source describes. What the processor
resumes at is outside the source (60_exceptions.md rule R187), hence a free pc; that r0 to r14, the mode and the
security state stay is the model's. DESIGN CHOICE, log 54: unsafe. -/
def leaveDebug (s : State) : State :=
  checkItren (jumpAnywhere { s with cpu := { s.cpu with dbg := .normal } })

/-! CP14 accesses. -/

/-- The CP14 debug registers of 40_cp14_access.md rule R100. -/
inductive Cp14Reg where
  | dbgdscrint
  | dbgdscrext
  | dbgdtrrxint
  | dbgdtrtxint
  deriving DecidableEq, Repr

/-- The three outcomes of the permission check (R100). -/
inductive Permission where
  | permitted
  | undefined
  | refuse
  deriving DecidableEq, Repr

/-- `cp14_check(s, reg)` (40_cp14_access.md rule R100, decision D13): by `s.mode` alone. -/
def cp14Check (s : State) (r : Cp14Reg) : Permission :=
  match s.cpu.mode with
  | .user =>
    if s.dscr.udccdis then .undefined
    else
      match r with
      | .dbgdscrint => .permitted
      | .dbgdtrrxint => .permitted
      | .dbgdtrtxint => .permitted
      | .dbgdscrext => .refuse
  | .monitor => .permitted
  | .otherPrivileged => .permitted

/-- The common frame of the five accesses of 40_cp14_access.md: `Rd` = 15 is refused (R86), then the permission check
(R100), then the access itself. -/
def cp14Access (r : Cp14Reg) (rd : BitVec 4) (access : State → Outcome) (s : State) : Outcome :=
  if rd = 15#4 then .refused .rdIsPc
  else
    match cp14Check s r with
    | .permitted => access s
    | .undefined => .next (raiseUndefined s)
    | .refuse => .refused .userAccessToExtendedView

/-- The latch copy of an APB read of DBGDSCRext (41_apb_access.md rule R120; 90_conflicts.md C1). -/
def copyLatches (s : State) : State :=
  { s with dscr :=
      { s.dscr with
        rxfullL := s.dscr.rxfull
        txfullL := s.dscr.txfull
        instrcomplL := s.dscr.instrcompl } }

/-- `write_dscr(s, v)` (10_state.md rule R42). -/
def writeDscr (v : Word) (s : State) : Except Refusal State :=
  if s.params.sbzpPolicy = .refuse ∧ hasReservedOne v = true then .error .sbzpViolation
  else if dataExtDccMode v = 0b11#2 then .error .reservedExtDccMode
  else .ok (checkItren { s with dscr := s.dscr.withControls v })

/-! Data transfer registers, DBGITR and the access modes. -/

/-- The result the debugger sees (20_memory.md rule R64). -/
def answer (r : ApbResult) (s : State) : State := { s with apbResult := some r }

/-- The effects of every successful write of DBGDTRRXext (41_apb_access.md rule R122). -/
def storeDtrrx (v : Word) (s : State) : State :=
  { s with
    dcc := { s.dcc with dtrrx := v }
    dscr := { s.dscr with rxfull := true, rxfullL := true } }

/-- The flag effects of every successful read of DBGDTRTXext (R122). -/
def takeDtrtx (s : State) : State :=
  { s with dscr := { s.dscr with txfull := false, txfullL := false } }

/-- The data a successful read of DBGDTRTXext returns when DBGDTRTX is full, or a free value when it is empty
(R122, R127). -/
def dtrtxData (s : State) : Word := if s.dscr.txfull then s.dcc.dtrtx else drawnWord s 0

/-- The test and the effects of the Nonblocking read of DBGDTRTXext (41_apb_access.md rule R127): ignored, with a free
value, while TXfull_l is 0. -/
def nonblockingDtrtxRead (s : State) : Outcome :=
  if s.dscr.txfullL then
    .next (answer (.ok (some (dtrtxData s))) (takeDtrtx (if s.dscr.txfull then s else useDraws 1 s)))
  else .next (answer (.ignored (some (drawnWord s 0))) (useDraws 1 s))

/-- A DBGITR write stores the instruction word (R130 to R132). -/
def storeItr (v : Word) (s : State) : State := { s with dcc := { s.dcc with itr := v } }

/-- InstrCompl and InstrCompl_l are cleared by an access that issues an instruction (10_state.md rules R19, R20). -/
def clearInstrCompl (s : State) : State :=
  { s with dscr := { s.dscr with instrcompl := false, instrcomplL := false } }

/-- `issue(s, w)` (41_apb_access.md rule R134): the processor has `w` to execute. -/
def issue (w : Word) (s : State) : State := { s with cpu := { s.cpu with issued := some w } }

/-- A Stall-mode access whose condition does not hold: the debugger has issued it and it has not completed (R123). -/
def waitStalled (p : StalledAccess) (s : State) : State := answer .stalled { s with stalledAccess := some p }

/-- The test and the effects of the Stall-mode write of DBGDTRRXext (R125). -/
def stallDtrrxWrite (v : Word) (s : State) : Outcome :=
  if s.dscr.rxfull then .next (waitStalled (.dtrrxWrite v) s)
  else .next (answer (.ok none) (storeDtrrx v s))

/-- The test and the effects of the Stall-mode read of DBGDTRTXext (R128). -/
def stallDtrtxRead (s : State) : Outcome :=
  if s.dscr.txfull then .next (answer (.ok (some s.dcc.dtrtx)) (takeDtrtx s))
  else .next (waitStalled .dtrtxRead s)

/-- The tests and the effects of the Stall-mode write of DBGITR (R131): the ignore test is evaluated when the access
completes (R131 a). -/
def stallItrWrite (v : Word) (s : State) : Outcome :=
  if s.dscr.sdabortL then .next (answer (.ignored none) s)
  else if !s.dscr.instrcompl then .next (waitStalled (.itrWrite v) s)
  else if !s.dscr.itren then .refused .itrWriteWithItrenClear
  else .next (answer (.ok none) (issue v (clearInstrCompl (storeItr v s))))

/-- What a reset of the register makes of the stalled access. It ends the stall of a DBGDTRTXext read (R128). The writes
are as before: RXfull is 0 by then, so a DBGDTRRXext write completes at its next evaluation (R125 b), and a DBGITR write
waits for InstrCompl (R131). -/
def StalledAccess.afterReset (p : StalledAccess) : StalledAccess :=
  match p with
  | .dtrrxWrite v => .dtrrxWrite v
  | .dtrtxRead => .dtrtxReadEnded
  | .dtrtxReadEnded => .dtrtxReadEnded
  | .itrWrite v => .itrWrite v

/-- A stalled access is evaluated again "in the state of that moment" (R123), by its own Stall-mode rule whatever
ExtDCCmode is by then: a change of the mode is for the next access (R121 b). After a Reset it is "re-evaluated against
the new state" (70_reset_and_hazards.md rule R200): a read whose stall the reset has ended is answered as in the mode the
reset has left, Nonblocking, and never waits. DEDUCED, log 36. -/
def retryStalled (p : StalledAccess) (s : State) : Outcome :=
  match p with
  | .dtrrxWrite v => stallDtrrxWrite v s
  | .dtrtxRead => stallDtrtxRead s
  | .dtrtxReadEnded => nonblockingDtrtxRead s
  | .itrWrite v => stallItrWrite v s

/-- A mode-governed row is the access made only while ExtDCCmode selects it (R84, R122); b11 is refused (R136). -/
def inMode (m : DccMode) (s : State) (o : Outcome) : Outcome :=
  if s.dscr.extdccmode = m.code then o
  else if s.dscr.extdccmode = 0b11#2 then .refused .reservedExtDccMode
  else .refused .modeNotSelected

end Sys2Proof.Machine
end

