-- ==== Sys2Proof/Machine/Apb.lean ====
section
/-!
DEFINITION. The debugger-side accesses (41_apb_access.md): one meaning for each row of format APB. A Stall-mode access
whose condition does not hold changes nothing but the result `stalled` and that the debugger now has a stalled access
(R123), which its later turns try again (Machine/Agents.lean).
-/

namespace Sys2Proof.Machine

/-- `ApbRead(0x88)` (R120): the external view, then the latch copy. Bit [24] uses a free bit only in normal state
(R41). -/
def execApbRdDbgdscrext (s : State) : Outcome :=
  let v := viewExtApb s (drawnBit s 0)
  .next (answer (.ok (some v)) (copyLatches (if inDebugState s then s else useDraws 1 s)))

/-- `ApbWrite(0x88, v)` (R121): `write_dscr`. -/
def execApbWrDbgdscrext (v : Word) (s : State) : Outcome :=
  match writeDscr v s with
  | .ok t => .next (answer (.ok none) t)
  | .error r => .refused r

/-- `ApbWrite(OFF_DTRRX, v)` in Nonblocking mode (R124): ignored while RXfull_l is 1. -/
def execApbWrDbgdtrrxextNonblocking (v : Word) (s : State) : Outcome :=
  inMode .nonblocking s
    (if s.dscr.rxfullL then .next (answer (.ignored none) s)
     else .next (answer (.ok none) (storeDtrrx v s)))

/-- `ApbWrite(OFF_DTRRX, v)` in Stall mode (R125): stalled until RXfull is 0. -/
def execApbWrDbgdtrrxextStall (v : Word) (s : State) : Outcome :=
  inMode .stall s (stallDtrrxWrite v s)

/-- `ApbWrite(OFF_DTRRX, v)` in Fast mode (R126): ignored while Sticky synchronous abort is set, refused when not ready
(decision D17), else the data is stored and the instruction of DBGITR is issued. -/
def execApbWrDbgdtrrxextFast (v : Word) (s : State) : Outcome :=
  inMode .fast s
    (if s.dscr.sdabortL then .next (answer (.ignored none) s)
     else if s.dscr.instrcompl && !s.dscr.rxfull && s.dscr.itren then
       .next (answer (.ok none) (issue s.dcc.itr (clearInstrCompl (storeDtrrx v s))))
     else .refused .fastModeNotReady)

/-- `ApbRead(OFF_DTRTX)` in Nonblocking mode (R127): ignored, with a free value, while TXfull_l is 0. -/
def execApbRdDbgdtrtxextNonblocking (s : State) : Outcome :=
  inMode .nonblocking s (nonblockingDtrtxRead s)

/-- `ApbRead(OFF_DTRTX)` in Stall mode (R128): stalled until TXfull is 1. -/
def execApbRdDbgdtrtxextStall (s : State) : Outcome :=
  inMode .stall s (stallDtrtxRead s)

/-- `ApbRead(OFF_DTRTX)` in Fast mode (R129): ignored, with a free value (decision D19), while Sticky synchronous abort
is set, refused when not ready, else the data is returned and the instruction of DBGITR is issued. -/
def execApbRdDbgdtrtxextFast (s : State) : Outcome :=
  inMode .fast s
    (if s.dscr.sdabortL then .next (answer (.ignored (some (drawnWord s 0))) (useDraws 1 s))
     else if s.dscr.instrcompl && s.dscr.txfull && s.dscr.itren then
       .next (answer (.ok (some s.dcc.dtrtx)) (issue s.dcc.itr (clearInstrCompl (takeDtrtx s))))
     else .refused .fastModeNotReady)

/-- `ApbWrite(OFF_ITR, v)` in Nonblocking mode (R130): ignored while Sticky synchronous abort is set (R133) or
InstrCompl_l is 0, refused while bit [13] is 0 (decision D18), else stored and issued. -/
def execApbWrDbgitrNonblocking (v : Word) (s : State) : Outcome :=
  inMode .nonblocking s
    (if s.dscr.sdabortL then .next (answer (.ignored none) s)
     else if !s.dscr.instrcomplL then .next (answer (.ignored none) s)
     else if !s.dscr.itren then .refused .itrWriteWithItrenClear
     else .next (answer (.ok none) (issue v (clearInstrCompl (storeItr v s)))))

/-- `ApbWrite(OFF_ITR, v)` in Stall mode (R131): ignored while Sticky synchronous abort is set, stalled until InstrCompl
is 1, refused while bit [13] is 0, else stored and issued. -/
def execApbWrDbgitrStall (v : Word) (s : State) : Outcome :=
  inMode .stall s (stallItrWrite v s)

/-- `ApbWrite(OFF_ITR, v)` in Fast mode (R132): ignored while Sticky synchronous abort is set, refused while InstrCompl
is 0, else stored and neither issued nor the flags cleared. -/
def execApbWrDbgitrFast (v : Word) (s : State) : Outcome :=
  inMode .fast s
    (if s.dscr.sdabortL then .next (answer (.ignored none) s)
     else if !s.dscr.instrcompl then .refused .fastModeNotReady
     else .next (answer (.ok none) (storeItr v s)))

/-- `ApbWrite(OFF_DRCR, v)` (R135): bits [3], [2] and [0] of the data. -/
def execApbWrDbgdrcr (v : Word) (s : State) : Outcome :=
  .next (answer (.ok none)
    { s with
      dscr :=
        { s.dscr with
          pipeadv := s.dscr.pipeadv && !drcrClearsPipeadv v
          undL := s.dscr.undL && !drcrClearsSticky v
          adabortL := s.dscr.adabortL && !drcrClearsSticky v
          sdabortL := s.dscr.sdabortL && !drcrClearsSticky v }
      haltRequest := s.haltRequest || drcrRequestsHalt v })

end Sys2Proof.Machine
end

