-- ==== Sys2Proof/Machine/Cp14.lean ====
section
/-!
DEFINITION. The processor-side accesses (40_cp14_access.md; 30_encoding.md rule R85): one meaning for each row of
format ARM_MRC_MCR.
-/

namespace Sys2Proof.Machine

/-- `MRC p14, 0, <Rd>, c0, c1, 0` (R101): the internal view, with three free bits; no side effect on the register. -/
def execMrcDbgdscrint (rd : BitVec 4) (s : State) : Outcome :=
  cp14Access .dbgdscrint rd
    (fun s => .next (retire (useDraws 3 (writeReg rd (viewInt s (drawnBit s 0) (drawnBit s 1) (drawnBit s 2)) s)))) s

/-- `MRC p14, 0, <Rd>, c0, c2, 2` (R102): the external view, with one free bit; it copies the latched flags only under
`CP14_EXT_READ_LATCHES`. -/
def execMrcDbgdscrext (rd : BitVec 4) (s : State) : Outcome :=
  cp14Access .dbgdscrext rd
    (fun s =>
      let t := useDraws 1 (writeReg rd (viewExtCp14 s (drawnBit s 0)) s)
      .next (retire (if s.params.cp14ExtReadLatches then copyLatches t else t))) s

/-- `MCR p14, 0, <Rd>, c0, c2, 2` (R103): `write_dscr` of `x[Rd]`. -/
def execMcrDbgdscrext (rd : BitVec 4) (s : State) : Outcome :=
  cp14Access .dbgdscrext rd
    (fun s =>
      match writeDscr (readReg s rd) s with
      | .ok t => .next (retire t)
      | .error r => .refused r) s

/-- `MCR p14, 0, <Rd>, c0, c1, 0` (R85): a write to the read-only view, by `RO_MCR_POLICY`. The write itself changes
nothing; the exception has its own effects (R180). DEDUCED, log 22. -/
def execMcrDbgdscrintRefused (_rd : BitVec 4) (s : State) : Outcome :=
  match s.params.roMcrPolicy with
  | .refuse => .refused .readOnlyView
  | .undefinedException => .next (raiseUndefined s)

/-- The processor's read of DBGDTRRXint (R104): a free value while RXfull is 0; RXfull is cleared, its latched copy and
the data stay. -/
def execMrcDbgdtrrxint (rd : BitVec 4) (s : State) : Outcome :=
  cp14Access .dbgdtrrxint rd
    (fun s =>
      let t :=
        if s.dscr.rxfull then writeReg rd s.dcc.dtrrx s
        else useDraws 1 (writeReg rd (drawnWord s 0) s)
      .next (retire { t with dscr := { t.dscr with rxfull := false } })) s

/-- The processor's write of DBGDTRTXint (R105): while TXfull is 1 it records a fault and DBGDTRTX and TXfull become
free values. -/
def execMcrDbgdtrtxint (rd : BitVec 4) (s : State) : Outcome :=
  cp14Access .dbgdtrtxint rd
    (fun s =>
      if s.dscr.txfull then
        .next (retire (useDraws 2 (recordDtrTxFault
          { s with
            dcc := { s.dcc with dtrtx := drawnWord s 0 }
            dscr := { s.dscr with txfull := drawnBit s 1 } })))
      else
        .next (retire
          { s with
            dcc := { s.dcc with dtrtx := readReg s rd }
            dscr := { s.dscr with txfull := true } })) s

end Sys2Proof.Machine
end

