-- ==== Sys2Proof/Machine/Dispatch.lean ====
section
/-! DEFINITION. One arm for each constructor of `Instr`: the meaning of its row of spec/opcode_table.json. -/

namespace Sys2Proof.Machine

/-- The meaning of one instruction or access. -/
def exec (i : Instr) (s : State) : Host.Outcome State Fault Refusal :=
  match i with
  | .mrcDbgdscrint rd => Sys2Proof.Machine.execMrcDbgdscrint rd s
  | .mrcDbgdscrext rd => Sys2Proof.Machine.execMrcDbgdscrext rd s
  | .mcrDbgdscrext rd => Sys2Proof.Machine.execMcrDbgdscrext rd s
  | .mcrDbgdscrintRefused rd => Sys2Proof.Machine.execMcrDbgdscrintRefused rd s
  | .mrcDbgdtrrxint rd => Sys2Proof.Machine.execMrcDbgdtrrxint rd s
  | .mcrDbgdtrtxint rd => Sys2Proof.Machine.execMcrDbgdtrtxint rd s
  | .apbRdDbgdscrext => Sys2Proof.Machine.execApbRdDbgdscrext s
  | .apbWrDbgdscrext v => Sys2Proof.Machine.execApbWrDbgdscrext v s
  | .apbWrDbgdtrrxextNonblocking v => Sys2Proof.Machine.execApbWrDbgdtrrxextNonblocking v s
  | .apbWrDbgdtrrxextStall v => Sys2Proof.Machine.execApbWrDbgdtrrxextStall v s
  | .apbWrDbgdtrrxextFast v => Sys2Proof.Machine.execApbWrDbgdtrrxextFast v s
  | .apbRdDbgdtrtxextNonblocking => Sys2Proof.Machine.execApbRdDbgdtrtxextNonblocking s
  | .apbRdDbgdtrtxextStall => Sys2Proof.Machine.execApbRdDbgdtrtxextStall s
  | .apbRdDbgdtrtxextFast => Sys2Proof.Machine.execApbRdDbgdtrtxextFast s
  | .apbWrDbgitrNonblocking v => Sys2Proof.Machine.execApbWrDbgitrNonblocking v s
  | .apbWrDbgitrStall v => Sys2Proof.Machine.execApbWrDbgitrStall v s
  | .apbWrDbgitrFast v => Sys2Proof.Machine.execApbWrDbgitrFast v s
  | .apbWrDbgdrcr v => Sys2Proof.Machine.execApbWrDbgdrcr v s

end Sys2Proof.Machine
end

