-- ==== Sys2Proof/Machine/Events.lean ====
section
/-!
DEFINITION. The events of the processor and the environment: when each is enabled and what it does
(42_hardware_updates.md, 60_exceptions.md rules R181, R183, 70_reset_and_hazards.md rule R200), and the two DTR accesses
as events without a word (40_cp14_access.md rules R104, R105).
-/

namespace Sys2Proof.Machine

/-- The processor may make a DTR access that has no instruction word (30_encoding.md rule R83): in its own instruction
stream outside debug state, or as an issued instruction whose word the decoder does not know. DEDUCED, log 45. -/
def dtrEventEnabled (s : State) : Bool :=
  match s.cpu.issued with
  | none => !inDebugState s
  | some w =>
    match decodeWord s.params w with
    | .error .notInScope => true
    | .error .rdIsPc => false
    | .error .unsupportedApbAccess => false
    | .error .reservedExtDccMode => false
    | .ok _ => false

/-- The precondition of each event. -/
def enabled (e : Event) (s : State) : Bool :=
  match e with
  | .retire => true
  | .itrDone => itrBusy s
  | .itrIdle => s.params.instrcomplTracksIdle && !itrBusy s && !s.dscr.instrcompl
  | .enterDebugState c => !inDebugState s && mayHalt s c && (decide (c ≠ .haltRequest) || s.haltRequest)
  | .restartRequest => decide (s.cpu.dbg = .halted) && !itrBusy s
  | .exitDebugState => decide (s.cpu.dbg = .exiting)
  | .undefinedInDebugState => inDebugState s
  | .syncDataAbortInDebugState => inDebugState s
  | .asyncAbortInDebugState => inDebugState s
  | .processorStatusChange _ _ => true
  | .signalChange _ _ => true
  | .debugException c => !inDebugState s && monitorMode s && !isHaltingEvent c
  | .interrupt _ => !interruptsDisabled s
  | .reset p d => p || d
  | .readDtrRxInt _ => dtrEventEnabled s
  | .writeDtrTxInt _ => dtrEventEnabled s

/-- `Retire` (R150): a bare event for an instruction outside the spec's scope. -/
def retireBare (s : State) : State := { s with dscr := { s.dscr with pipeadv := true } }

/-- `ItrIdle` (R152). -/
def itrIdle (s : State) : State := { s with dscr := { s.dscr with instrcompl := true } }

/-- `RestartRequest` (R154). -/
def requestRestart (s : State) : State := { s with cpu := { s.cpu with dbg := .exiting } }

/-- `UndefinedInDebugState` (R156): "followed by `ItrDone`", in the same step. DEDUCED, log 41. -/
def undefinedInDebug (s : State) : State := endIssued { s with dscr := { s.dscr with undL := true } }

/-- `SyncDataAbortInDebugState` (R157): "followed by `ItrDone`", in the same step. DEDUCED, log 41. -/
def syncAbortInDebug (s : State) : State := endIssued { s with dscr := { s.dscr with sdabortL := true } }

/-- `AsyncAbortInDebugState` (R158), which ends no instruction. -/
def asyncAbortInDebug (s : State) : State := { s with dscr := { s.dscr with adabortL := true } }

/-- `ProcessorStatusChange(nonsecure', mode')` (R159). -/
def changeStatus (nonsecure : Bool) (mode : Mode) (s : State) : State :=
  { s with cpu := { s.cpu with nonsecure := nonsecure, mode := mode } }

/-- `SignalChange(sig, level)` (R160). -/
def changeSignal (sig : Signal) (level : Bool) (s : State) : State :=
  match sig with
  | .dbgen => { s with pins := { s.pins with dbgen := level } }
  | .niden => { s with pins := { s.pins with niden := level } }
  | .spiden => { s with pins := { s.pins with spiden := level } }
  | .spniden => { s with pins := { s.pins with spniden := level } }

/-- `DebugException(cause)` (R181): MOE is written and the processor takes a Prefetch Abort or a Data Abort. -/
def debugException (c : Cause) (s : State) : State :=
  takeException .debugAbort { s with dscr := { s.dscr with moe := moeCode c } }

/-- The exception an interrupt input causes (R183). -/
def interruptException : Interrupt → Exception
  | .irq => .irq
  | .fiq => .fiq

/-- `s.mode` after a processor reset is any mode, `s.nonsecure` any value with `ns(s) = 0` (R200): two free bits choose
the mode, a third the security state where the mode is Monitor. -/
def drawnMode (s : State) (k : Nat) : Mode :=
  if drawnBit s k then .monitor else if drawnBit s (k + 1) then .user else .otherPrivileged

/-- The processor part of `Reset` (R200): normal state, no issued instruction, `ns(s) = 0`. Where the processor starts
and what its general registers hold is outside the source (R201): free values, log 11. It uses 19 free values. -/
def resetProcessor (s : State) : State :=
  let mode := drawnMode s 0
  useDraws 19
    { s with cpu :=
        { s.cpu with
          x := Vector.ofFn (fun i : Fin 15 => drawnWord s (4 + i.val))
          pc := drawnWord s 3
          dbg := .normal
          issued := none
          nonsecure := drawnBit s 2 && decide (mode = .monitor)
          mode := mode } }

/-- The register part of `Reset` (R200): every stored field takes its reset value; RXfull_l, TXfull_l, DBGDTRRX,
DBGDTRTX and DBGITR are drawn (decision D24). It uses 5 free values. It ends the stall of a DBGDTRTXext read
(41_apb_access.md rule R128). -/
def resetDebug (s : State) : State :=
  useDraws 5
    { s with
      dscr := { Dscr.reset with rxfullL := drawnBit s 0, txfullL := drawnBit s 1 }
      dcc := { dtrrx := drawnWord s 2, dtrtx := drawnWord s 3, itr := drawnWord s 4 }
      stalledAccess := s.stalledAccess.map StalledAccess.afterReset }

/-- `Reset(proc, dbg)` (R200), then the check of R162. Faults recorded before stay. -/
def reset (proc dbg : Bool) (s : State) : State :=
  let s := if proc then resetProcessor s else s
  checkItren (if dbg then resetDebug s else s)

/-- What an enabled event does. -/
def happen (e : Event) (s : State) : Outcome :=
  match e with
  | .retire => .next (retireBare s)
  | .itrDone => .next (itrDone s)
  | .itrIdle => .next (itrIdle s)
  | .enterDebugState c => .next (enterDebug c s)
  | .restartRequest => .next (requestRestart s)
  | .exitDebugState => .next (leaveDebug s)
  | .undefinedInDebugState => .next (undefinedInDebug s)
  | .syncDataAbortInDebugState => .next (syncAbortInDebug s)
  | .asyncAbortInDebugState => .next (asyncAbortInDebug s)
  | .processorStatusChange n m => .next (changeStatus n m s)
  | .signalChange sig level => .next (changeSignal sig level s)
  | .debugException c => .next (debugException c s)
  | .interrupt line => .next (takeException (interruptException line) s)
  | .reset p d => .next (reset p d s)
  | .readDtrRxInt rd => execMrcDbgdtrrxint rd s
  | .writeDtrTxInt rd => execMcrDbgdtrtxint rd s

/-- An event is a step only while its precondition holds (42_hardware_updates.md; log 48). -/
def applyEvent (e : Event) (s : State) : Outcome :=
  if enabled e s then happen e s else .fault (.notEnabled e)

end Sys2Proof.Machine
end

