-- ==== Sys2Proof/Machine/Agents.lean ====
section
/-!
DEFINITION. One turn of each agent (00_scope.md rules R2, R3): what it takes from its queue, how that is decoded, and
what remains of the queue afterwards. Each turn that answers a next state ends with the check of
42_hardware_updates.md rule R162.
-/

namespace Sys2Proof.Machine

/-- The word the processor executes next and the state once it is fetched: an issued instruction first (41_apb_access.md
rule R134), else, outside debug state, the next word of its own stream; in debug state "the processor stops fetching
from memory" (42_hardware_updates.md rule R153 b). -/
def fetchWord (s : State) : Option (Word × State) :=
  match s.cpu.issued with
  | some w => some (w, s)
  | none =>
    if inDebugState s then none
    else
      match s.agenda.program with
      | [] => none
      | w :: ws => some (w, { s with agenda := { s.agenda with program := ws } })

/-- The processor executes one instruction (R134: "if `w` decodes ... the rule for that form; otherwise
`refuse NotInScope`"). -/
def processorTurn (s : State) : Outcome :=
  match fetchWord s with
  | none => .fault (.nothingToDo .processor)
  | some (w, t) =>
    match decodeWord t.params w with
    | .error e => .refused (refusalOf e)
    | .ok i => mapNext checkItren (exec i t)

/-- The debugger makes its next access, decoded under the ExtDCCmode of this moment (R84, R122); while an access of its own
is stalled it has no other step, and tries that one again (20_memory.md rule R71, 41_apb_access.md rule R123). -/
def debuggerTurn (s : State) : Outcome :=
  match s.stalledAccess with
  | some p => mapNext checkItren (retryStalled p { s with stalledAccess := none })
  | none =>
    match s.agenda.accesses with
    | [] => .fault (.nothingToDo .debugger)
    | a :: rest =>
      match decodeAccess s.params s.dscr.extdccmode a with
      | .error e => .refused (refusalOf e)
      | .ok i => mapNext checkItren (exec i { s with agenda := { s.agenda with accesses := rest } })

/-- The hardware or the environment delivers its next event. -/
def hardwareTurn (s : State) : Outcome :=
  match s.agenda.events with
  | [] => .fault (.nothingToDo .hardware)
  | e :: rest => mapNext checkItren (applyEvent e { s with agenda := { s.agenda with events := rest } })

/-- One turn of the agent whose turn it is. -/
def turn (a : Agent) (s : State) : Outcome :=
  match a with
  | .processor => processorTurn s
  | .debugger => debuggerTurn s
  | .hardware => hardwareTurn s

/-- The state whose next turn is this one. -/
def scheduleNext (a : Agent) (s : State) : State :=
  { s with agenda := { s.agenda with schedule := a :: s.agenda.schedule } }

/-- The state in which the processor's next instruction is this word: the issued instruction where it executes one or is
in debug state, else the head of its own stream. -/
def placeWord (w : Word) (s : State) : State :=
  scheduleNext .processor
    (if itrBusy s || inDebugState s then issue w s
     else { s with agenda := { s.agenda with program := w :: s.agenda.program } })

/-- The state in which the debugger's next access is this one: no access of its own is stalled. -/
def placeAccess (a : Access) (s : State) : State :=
  scheduleNext .debugger
    { s with agenda := { s.agenda with accesses := a :: s.agenda.accesses }, stalledAccess := none }

/-- The state in which the next step presents the encoding of `i` to the decoder, with what decoding it takes: a DTR
word needs `DECODE_DTR_INT` (30_encoding.md rule R83), a mode-governed access its ExtDCCmode (R84). -/
def placeInstr (i : Instr) (s : State) : State :=
  match encode s.params i with
  | .word w =>
    placeWord w
      { s with params := { s.params with decodeDtrInt := s.params.decodeDtrInt || i.isDtrInt } }
  | .access a =>
    placeAccess a
      { s with dscr :=
          { s.dscr with extdccmode := match i.dccMode with
              | some m => m.code
              | none => s.dscr.extdccmode } }

end Sys2Proof.Machine
end

