-- ==== Sys2Proof/Machine/Step.lean ====
section
/-!
DEFINITION. One step of the machine: the agent whose turn it is takes it (00_scope.md rule R3), and how the host places
an instruction where the next step takes it from.
-/

namespace Sys2Proof.Machine

/-- One atomic step (00_scope.md rule R3, 20_memory.md rules R66, R67). With no turn scheduled there is none. -/
def step (s : State) : Host.Outcome State Fault Refusal :=
  match s.agenda.schedule with
  | [] => .fault .noTurn
  | a :: rest => turn a { s with agenda := { s.agenda with schedule := rest } }

/-- `s` with the table's word placed so that the very next step runs it: an instruction word in the processor's stream,
an access in the debugger's queue, and that agent's turn first (log 6, log 17). -/
def State.withFetchWord (s : State) (nbits w : Nat) : State :=
  match decodeTableWord nbits w with
  | some i => placeInstr i s
  | none => placeWord (BitVec.ofNat 32 w) s

end Sys2Proof.Machine
end

