-- ==== Sys2Proof/Safety.lean ====
section
/-!
DEFINITION. What counts as a safe run, in the terms the statements use: no recorded fault (00_scope.md rule R7: a faulted
state is never final), the handshake invariants of 41_apb_access.md rule R122, and the check of 42_hardware_updates.md
rule R162. Each is a Bool of one state.
-/

namespace Sys2Proof.Machine

/-- `s.fault` is empty. -/
def faultFree (s : State) : Bool :=
  !s.faults.dtrTxWriteWhileFull && !s.faults.itrenOutsideDebugState

/-- Every fault recorded in `s` is recorded in `t` ("never cleared", R7). -/
def faultsKept (s t : State) : Bool :=
  (!s.faults.dtrTxWriteWhileFull || t.faults.dtrTxWriteWhileFull)
    && (!s.faults.itrenOutsideDebugState || t.faults.itrenOutsideDebugState)

/-- (I1) of R122: RXfull implies RXfull_l. -/
def rxLatchSound (s : State) : Bool := !s.dscr.rxfull || s.dscr.rxfullL

/-- (I2) of R122: TXfull_l implies TXfull. -/
def txLatchSound (s : State) : Bool := !s.dscr.txfullL || s.dscr.txfull

/-- (I3) of R122: InstrCompl_l implies InstrCompl. -/
def instrLatchSound (s : State) : Bool := !s.dscr.instrcomplL || s.dscr.instrcompl

/-- The half of (I4) of R122 that holds from reset on: InstrCompl implies that no issued instruction is executing. -/
def complMeansIdle (s : State) : Bool := !s.dscr.instrcompl || !itrBusy s

/-- ExtDCCmode is not the reserved value b11 (30_encoding.md rule R87 b, 41_apb_access.md rule R136). -/
def modeLegal (s : State) : Bool := decide (s.dscr.extdccmode ≠ 0b11#2)

/-- The invariant of the handshake: what every step keeps. -/
def handshake (s : State) : Bool :=
  rxLatchSound s && instrLatchSound s && complMeansIdle s && modeLegal s

/-- R162: a state with bit [13] set outside debug state has the fault recorded. -/
def itrenChecked (s : State) : Bool :=
  !itrenOutsideDebugState s || s.faults.itrenOutsideDebugState

/-- The control fields of DBGDSCR agree: the eight read and write fields of 10_state.md rule R40. -/
def sameControls (d e : Dscr) : Bool :=
  d.extdccmode == e.extdccmode && d.mdbgen == e.mdbgen && d.hdbgen == e.hdbgen && d.itren == e.itren
    && d.udccdis == e.udccdis && d.intdis == e.intdis && d.dbgack == e.dbgack && d.moe == e.moe

/-- The next step of `s` is the delivery of `e` by the hardware. -/
def deliversNext (e : Event) (s : State) : Bool :=
  decide (s.agenda.schedule.head? = some .hardware) && decide (s.agenda.events.head? = some e)

end Sys2Proof.Machine
end

