-- ==== Sys2Proof/Certificates/Slice0/Obligations.lean ====
section
/-!
DEFINITION. The statements for the provers, each a proposition about the machine, in the order of the spec's rules. A
statement of what an instruction does is an equation on its next state: what the record update does not name is
unchanged, which is the instruction's frame. The field `draws` is the model's own counter of free values (log 5), and a
value bound by `∃` that nothing else constrains is a free value.
-/

open Sys2Proof Sys2Proof.Machine

/-! Registers, views and reset. -/

/-- R45: a write of `x[Rd]` sets that register and no other.
The model's choices: log 12. -/
def Obligations.RegisterWriteChangesOneRegister : Prop :=
  ∀ (rd r : BitVec 4) (v : Word) (s : State), rd ≠ 15#4 →
    readReg (writeReg rd v s) rd = v ∧ (r ≠ rd → readReg (writeReg rd v s) r = readReg s r)

/-- R10, R41: every bit of the word a read returns, with bits [27], [26], [24] as its view supplies them.
The model's choices: log 31, 32. -/
def Obligations.ViewBitAssignment : Prop :=
  ∀ (s : State) (b27 b26 b24 : Bool),
    let w := viewWord s b27 b26 b24
    w.getLsbD 31 = false ∧ w.getLsbD 30 = s.dscr.rxfull ∧ w.getLsbD 29 = s.dscr.txfull ∧ w.getLsbD 28 = false ∧
    w.getLsbD 27 = b27 ∧ w.getLsbD 26 = b26 ∧ w.getLsbD 25 = s.dscr.pipeadv ∧ w.getLsbD 24 = b24 ∧
    w.extractLsb' 22 2 = 0#2 ∧ w.extractLsb' 20 2 = s.dscr.extdccmode ∧
    w.getLsbD 19 = decide (s.cpu.dbg ≠ .normal) ∧
    w.getLsbD 18 = (s.cpu.nonsecure && decide (s.cpu.mode ≠ .monitor)) ∧
    w.getLsbD 17 = !((s.pins.niden || s.pins.dbgen) && (s.pins.spniden || s.pins.spiden)) ∧
    w.getLsbD 16 = !(s.pins.dbgen && s.pins.spiden) ∧
    w.getLsbD 15 = (s.pins.dbgen && s.dscr.mdbgen) ∧ w.getLsbD 14 = (s.pins.dbgen && s.dscr.hdbgen) ∧
    w.getLsbD 13 = s.dscr.itren ∧ w.getLsbD 12 = s.dscr.udccdis ∧ w.getLsbD 11 = s.dscr.intdis ∧
    w.getLsbD 10 = s.dscr.dbgack ∧ w.getLsbD 9 = false ∧ w.getLsbD 8 = s.dscr.undL ∧
    w.getLsbD 7 = s.dscr.adabortL ∧ w.getLsbD 6 = s.dscr.sdabortL ∧ w.extractLsb' 2 4 = s.dscr.moe ∧
    w.getLsbD 1 = decide (s.cpu.dbg ≠ .exiting) ∧ w.getLsbD 0 = decide (s.cpu.dbg ≠ .normal)

/-- R24, R25: bits [17] and [16] follow the four signals, are the inverses of Authentication Status Register bits [6]
and [4], and no write of DBGDSCRext changes them. -/
def Obligations.AuthenticationBitsFollowSignals : Prop :=
  ∀ (s : State) (b27 b26 b24 : Bool),
    ((viewWord s b27 b26 b24).getLsbD 17 = false ↔
      (s.pins.niden = true ∨ s.pins.dbgen = true) ∧ (s.pins.spniden = true ∨ s.pins.spiden = true)) ∧
    ((viewWord s b27 b26 b24).getLsbD 16 = false ↔ s.pins.dbgen = true ∧ s.pins.spiden = true) ∧
    (viewWord s b27 b26 b24).getLsbD 17 = !authstatus6 s ∧ (viewWord s b27 b26 b24).getLsbD 16 = !authstatus4 s ∧
    ∀ (v : Word) (t : State), writeDscr v s = .ok t →
      (viewWord t b27 b26 b24).getLsbD 17 = (viewWord s b27 b26 b24).getLsbD 17 ∧
      (viewWord t b27 b26 b24).getLsbD 16 = (viewWord s b27 b26 b24).getLsbD 16

/-- R201: the word read after reset, for every level of the four signals and every value of the free bits. The signals'
levels at reset are the model's choice (log 4), so they are arbitrary here.
The model's choices: log 31, 50, 51. -/
def Obligations.ResetReadWord : Prop :=
  ∀ (p : Pins) (d27 d26 d24 : Bool),
    let s : State := { State.reset with pins := p }
    let w : Word := 2#32 ||| (if spniddis s then 0x20000#32 else 0#32) ||| (if spiddis s then 0x10000#32 else 0#32)
      ||| (if d24 then 0x1000000#32 else 0#32)
    viewExtApb s d24 = w ∧ viewExtCp14 s d24 = w ∧
    viewInt s d27 d26 d24 =
      w ||| (if d27 then 0x8000000#32 else 0#32) ||| (if d26 then 0x4000000#32 else 0#32)

/-- R200, R128: what `Reset(proc, dbg)` leaves; one that reaches the register ends the stall of a DBGDTRTXext read. What is
drawn is free; where the processor starts and what its general registers then hold is the model's free choice (log 11).
The model's choices: log 26, 34, 36, 42. -/
def Obligations.ResetEventRestoresFields : Prop :=
  ∀ (p d : Bool) (s : State), (p || d) = true →
    ∃ t, applyEvent (.reset p d) s = .next t ∧
      (p = true → t.cpu.dbg = .normal ∧ itrBusy t = false ∧ ns t = false ∧ t.cpu.result = s.cpu.result) ∧
      (p = false → t.cpu = s.cpu) ∧
      (d = true → ∃ a b, t.dscr =
        { rxfull := false, txfull := false, rxfullL := a, txfullL := b, pipeadv := false, instrcomplL := false
          instrcompl := false, extdccmode := 0b00#2, mdbgen := false, hdbgen := false, itren := false
          udccdis := false, intdis := false, dbgack := false, undL := false, adabortL := false
          sdabortL := false, moe := 0b0000#4 }) ∧
      (d = false → t.dscr = s.dscr ∧ t.dcc = s.dcc) ∧
      t.pins = s.pins ∧ t.haltRequest = s.haltRequest ∧ t.apbResult = s.apbResult ∧
      (d = false → t.stalledAccess = s.stalledAccess) ∧
      (d = true → t.stalledAccess =
        if s.stalledAccess = some .dtrtxRead then some .dtrtxReadEnded else s.stalledAccess) ∧
      t.agenda = s.agenda ∧
      t.params = s.params ∧ t.faults.dtrTxWriteWhileFull = s.faults.dtrTxWriteWhileFull ∧
      t.faults.itrenOutsideDebugState =
        (s.faults.itrenOutsideDebugState || (t.dscr.itren && decide (t.cpu.dbg = .normal)))

/-! The write function. -/

/-- R103 (d), R121 (a), R210: writing back a word just read through any view changes no field while DBGEN is HIGH, and
with DBGEN LOW loses the programmed values of bits [15] and [14] and nothing else.
The model's choices: log 21, 32, 43. -/
def Obligations.WriteBackKeepsFieldsButMaskedDebugModes : Prop :=
  ∀ (s : State) (b27 b26 b24 : Bool), s.dscr.extdccmode ≠ 0b11#2 →
    writeDscr (viewWord s b27 b26 b24) s = .ok
      { s with
        dscr :=
          { s.dscr with mdbgen := s.pins.dbgen && s.dscr.mdbgen, hdbgen := s.pins.dbgen && s.dscr.hdbgen }
        faults :=
          { s.faults with itrenOutsideDebugState :=
              s.faults.itrenOutsideDebugState || (s.dscr.itren && decide (s.cpu.dbg = .normal)) } }

/-- R26, R27: bits [15] and [14] written while DBGEN is LOW read as 0 and read as programmed once DBGEN is HIGH.
The model's choices: log 32. -/
def Obligations.ProgrammedDebugModesRevertWithDbgen : Prop :=
  ∀ (s t : State) (v : Word) (b27 b26 b24 : Bool), s.pins.dbgen = false → writeDscr v s = .ok t →
    (viewWord t b27 b26 b24).getLsbD 15 = false ∧ (viewWord t b27 b26 b24).getLsbD 14 = false ∧
    ∃ u, applyEvent (.signalChange .dbgen true) t = .next u ∧
      (viewWord u b27 b26 b24).getLsbD 15 = v.getLsbD 15 ∧ (viewWord u b27 b26 b24).getLsbD 14 = v.getLsbD 14

/-! Processor-side accesses. -/

/-- R101: the read of DBGDSCRint completes wherever R100 permits it.
The model's choices: log 35, 40, 53. -/
def Obligations.MrcDscrIntReturnsInternalView : Prop :=
  ∀ (rd : BitVec 4) (s : State), rd ≠ 15#4 → ¬(s.cpu.mode = .user ∧ s.dscr.udccdis = true) →
    ∃ d27 d26 d24 n, exec (.mrcDbgdscrint rd) s = .next
      { s with
        cpu :=
          { s.cpu with
            x := s.cpu.x.setIfInBounds rd.toNat (viewWord s d27 d26 d24)
            pc := if itrBusy s then s.cpu.pc else s.cpu.pc + s.params.pcStep
            issued := none
            result := .completed }
        dscr := { s.dscr with pipeadv := true, instrcompl := s.dscr.instrcompl || itrBusy s }
        draws := n }

/-- R102: the CP14 read of DBGDSCRext completes outside User mode; it copies the latches only under the parameter. An
instruction fetched from DBGITR sets InstrCompl after the copy (R107).
The model's choices: log 24, 35, 40, 50, 51, 53. -/
def Obligations.MrcDscrExtReturnsExternalView : Prop :=
  ∀ (rd : BitVec 4) (s : State), rd ≠ 15#4 → s.cpu.mode ≠ .user →
    ∃ d24 n, exec (.mrcDbgdscrext rd) s = .next
      { s with
        cpu :=
          { s.cpu with
            x := s.cpu.x.setIfInBounds rd.toNat (viewWord s s.dscr.rxfull s.dscr.txfull d24)
            pc := if itrBusy s then s.cpu.pc else s.cpu.pc + s.params.pcStep
            issued := none
            result := .completed }
        dscr :=
          { s.dscr with
            rxfullL := if s.params.cp14ExtReadLatches then s.dscr.rxfull else s.dscr.rxfullL
            txfullL := if s.params.cp14ExtReadLatches then s.dscr.txfull else s.dscr.txfullL
            instrcomplL := if s.params.cp14ExtReadLatches then s.dscr.instrcompl else s.dscr.instrcomplL
            pipeadv := true
            instrcompl := s.dscr.instrcompl || itrBusy s }
        draws := n }

/-- R103, R42: the CP14 write of DBGDSCRext completes outside User mode and writes the eight control fields.
The model's choices: log 19, 20, 21, 32, 35, 43, 53. -/
def Obligations.McrDscrExtWritesEightFields : Prop :=
  ∀ (rd : BitVec 4) (s : State), rd ≠ 15#4 → s.cpu.mode ≠ .user →
    (s.params.sbzpPolicy = .ignore ∨ hasReservedOne (readReg s rd) = false) →
    (readReg s rd).extractLsb' 20 2 ≠ 0b11#2 →
    exec (.mcrDbgdscrext rd) s = .next
      { s with
        cpu :=
          { s.cpu with
            pc := if itrBusy s then s.cpu.pc else s.cpu.pc + s.params.pcStep
            issued := none
            result := .completed }
        dscr :=
          { s.dscr with
            extdccmode := (readReg s rd).extractLsb' 20 2
            mdbgen := (readReg s rd).getLsbD 15
            hdbgen := (readReg s rd).getLsbD 14
            itren := (readReg s rd).getLsbD 13
            udccdis := (readReg s rd).getLsbD 12
            intdis := (readReg s rd).getLsbD 11
            dbgack := (readReg s rd).getLsbD 10
            moe := (readReg s rd).extractLsb' 2 4
            pipeadv := true
            instrcompl := s.dscr.instrcompl || itrBusy s }
        faults :=
          { s.faults with itrenOutsideDebugState :=
              s.faults.itrenOutsideDebugState || ((readReg s rd).getLsbD 13 && decide (s.cpu.dbg = .normal)) } }

/-- R13, R42: write data with a 1 in a reserved position is refused under the default policy, and write data with
[21:20] = b11 is refused under either, by APB in every state and by CP14 where R100 permits the write.
The model's choices: log 19, 20. -/
def Obligations.ReservedWriteDataRefused : Prop :=
  ∀ (v : Word) (s : State),
    (s.params.sbzpPolicy = .refuse → hasReservedOne v = true →
      exec (.apbWrDbgdscrext v) s = .refused .sbzpViolation ∧
      ∀ rd : BitVec 4, rd ≠ 15#4 → s.cpu.mode ≠ .user → readReg s rd = v →
        exec (.mcrDbgdscrext rd) s = .refused .sbzpViolation) ∧
    ((s.params.sbzpPolicy = .ignore ∨ hasReservedOne v = false) → v.extractLsb' 20 2 = 0b11#2 →
      exec (.apbWrDbgdscrext v) s = .refused .reservedExtDccMode ∧
      ∀ rd : BitVec 4, rd ≠ 15#4 → s.cpu.mode ≠ .user → readReg s rd = v →
        exec (.mcrDbgdscrext rd) s = .refused .reservedExtDccMode)

/-- R85: `MCR` to the read-only view is refused, or takes the Undefined instruction exception, by policy. The
exception's own effects are those of R180 (log 22); the pc outside debug state is free (log 9).
The model's choices: log 9, 22, 40, 41, 46, 55. -/
def Obligations.McrToReadOnlyViewByPolicy : Prop :=
  ∀ (rd : BitVec 4) (s : State),
    (s.params.roMcrPolicy = .refuse → exec (.mcrDbgdscrintRefused rd) s = .refused .readOnlyView) ∧
    (s.params.roMcrPolicy = .undefinedException →
      ∃ a pc n, exec (.mcrDbgdscrintRefused rd) s = .next
        { s with
          cpu := { s.cpu with pc := pc, issued := none, result := .trap .undefinedInstruction }
          dscr :=
            { s.dscr with
              pipeadv := s.dscr.pipeadv || a
              undL := s.dscr.undL || decide (s.cpu.dbg ≠ .normal)
              instrcompl := s.dscr.instrcompl || itrBusy s }
          draws := n } ∧ (s.cpu.dbg ≠ .normal → pc = s.cpu.pc))

/-- R104: the processor's read of DBGDTRRXint completes wherever R100 permits it.
The model's choices: log 5, 35, 53. -/
def Obligations.MrcDtrRxIntTakesData : Prop :=
  ∀ (rd : BitVec 4) (s : State), rd ≠ 15#4 → ¬(s.cpu.mode = .user ∧ s.dscr.udccdis = true) →
    ∃ v n, (s.dscr.rxfull = true → v = s.dcc.dtrrx ∧ n = s.draws) ∧
      exec (.mrcDbgdtrrxint rd) s = .next
      { s with
        cpu :=
          { s.cpu with
            x := s.cpu.x.setIfInBounds rd.toNat v
            pc := if itrBusy s then s.cpu.pc else s.cpu.pc + s.params.pcStep
            issued := none
            result := .completed }
        dscr := { s.dscr with rxfull := false, pipeadv := true, instrcompl := s.dscr.instrcompl || itrBusy s }
        draws := n }

/-- R105: the processor's write of DBGDTRTXint completes wherever R100 permits it; while TXfull is 1 it records the
fault and leaves DBGDTRTX and TXfull free.
The model's choices: log 5, 8, 35, 53. -/
def Obligations.McrDtrTxIntGivesData : Prop :=
  ∀ (rd : BitVec 4) (s : State), rd ≠ 15#4 → ¬(s.cpu.mode = .user ∧ s.dscr.udccdis = true) →
    ∃ v full n,
      (s.dscr.txfull = false → v = readReg s rd ∧ full = true ∧ n = s.draws) ∧
      exec (.mcrDbgdtrtxint rd) s = .next
      { s with
        cpu :=
          { s.cpu with
            pc := if itrBusy s then s.cpu.pc else s.cpu.pc + s.params.pcStep
            issued := none
            result := .completed }
        dcc := { s.dcc with dtrtx := v }
        dscr := { s.dscr with txfull := full, pipeadv := true, instrcompl := s.dscr.instrcompl || itrBusy s }
        faults := { s.faults with dtrTxWriteWhileFull := s.faults.dtrTxWriteWhileFull || s.dscr.txfull }
        draws := n }

/-- R100, R180, R156: with bit [12] set, each of the five accesses from User mode takes the Undefined instruction
exception and has none of its own effects. The pc outside debug state is free (log 9).
The model's choices: log 9, 23, 40, 41, 46, 55. -/
def Obligations.UserAccessTakesUndefinedException : Prop :=
  ∀ (i : Instr) (rd : BitVec 4) (s : State), rd ≠ 15#4 →
    i ∈ [Instr.mrcDbgdscrint rd, .mrcDbgdscrext rd, .mcrDbgdscrext rd, .mrcDbgdtrrxint rd, .mcrDbgdtrtxint rd] →
    s.cpu.mode = .user → s.dscr.udccdis = true →
    ∃ a pc n, exec i s = .next
      { s with
        cpu := { s.cpu with pc := pc, issued := none, result := .trap .undefinedInstruction }
        dscr :=
          { s.dscr with
            pipeadv := s.dscr.pipeadv || a
            undL := s.dscr.undL || decide (s.cpu.dbg ≠ .normal)
            instrcompl := s.dscr.instrcompl || itrBusy s }
        draws := n } ∧ (s.cpu.dbg ≠ .normal → pc = s.cpu.pc)

/-- R86, R100 (decision D13): `Rd` = 15 is refused by every access with an `Rd` operand, in every state; with bit [12]
clear, User mode may not reach the external view.
The model's choices: log 12, 23. -/
def Obligations.Cp14AccessRefusals : Prop :=
  ∀ s : State,
    (∀ i ∈ [Instr.mrcDbgdscrint 15#4, .mrcDbgdscrext 15#4, .mcrDbgdscrext 15#4, .mrcDbgdtrrxint 15#4,
        .mcrDbgdtrtxint 15#4], exec i s = .refused .rdIsPc) ∧
    (∀ rd : BitVec 4, rd ≠ 15#4 → s.cpu.mode = .user → s.dscr.udccdis = false →
      exec (.mrcDbgdscrext rd) s = .refused .userAccessToExtendedView ∧
      exec (.mcrDbgdscrext rd) s = .refused .userAccessToExtendedView)

/-! Debugger-side accesses. -/

/-- R120: the APB read of DBGDSCRext always completes, returns the external view and copies the three latches.
The model's choices: log 25, 50, 51. -/
def Obligations.ApbReadDscrCopiesLatches : Prop :=
  ∀ s : State, ∃ d24 n, (s.cpu.dbg ≠ .normal → d24 = s.dscr.instrcompl ∧ n = s.draws) ∧
    exec .apbRdDbgdscrext s = .next
      { s with
        dscr :=
          { s.dscr with
            rxfullL := s.dscr.rxfull, txfullL := s.dscr.txfull, instrcomplL := s.dscr.instrcompl }
        apbResult := some (.ok (some (viewWord s s.dscr.rxfull s.dscr.txfull d24)))
        draws := n }

/-- R121: the APB write of DBGDSCRext completes and writes the eight control fields.
The model's choices: log 19, 20, 21, 32, 43. -/
def Obligations.ApbWriteDscrWritesEightFields : Prop :=
  ∀ (v : Word) (s : State), (s.params.sbzpPolicy = .ignore ∨ hasReservedOne v = false) →
    v.extractLsb' 20 2 ≠ 0b11#2 →
    exec (.apbWrDbgdscrext v) s = .next
      { s with
        dscr :=
          { s.dscr with
            extdccmode := v.extractLsb' 20 2
            mdbgen := v.getLsbD 15
            hdbgen := v.getLsbD 14
            itren := v.getLsbD 13
            udccdis := v.getLsbD 12
            intdis := v.getLsbD 11
            dbgack := v.getLsbD 10
            moe := v.extractLsb' 2 4 }
        apbResult := some (.ok none)
        faults :=
          { s.faults with itrenOutsideDebugState :=
              s.faults.itrenOutsideDebugState || (v.getLsbD 13 && decide (s.cpu.dbg = .normal)) } }

/-- R124: the Nonblocking write of DBGDTRRXext is ignored while RXfull_l is 1 and else stores and sets both flags. -/
def Obligations.NonblockingDtrrxWrite : Prop :=
  ∀ (v : Word) (s : State), s.dscr.extdccmode = 0b00#2 →
    exec (.apbWrDbgdtrrxextNonblocking v) s = .next
      (if s.dscr.rxfullL then { s with apbResult := some (.ignored none) }
       else
        { s with
          dcc := { s.dcc with dtrrx := v }
          dscr := { s.dscr with rxfull := true, rxfullL := true }
          apbResult := some (.ok none) })

/-- R125: the Stall write of DBGDTRRXext is stalled while RXfull is 1, and then held as the debugger's stalled access, and
else stores and sets both flags.
The model's choices: log 36. -/
def Obligations.StallDtrrxWrite : Prop :=
  ∀ (v : Word) (s : State), s.dscr.extdccmode = 0b01#2 →
    exec (.apbWrDbgdtrrxextStall v) s = .next
      (if s.dscr.rxfull then { s with apbResult := some .stalled, stalledAccess := some (.dtrrxWrite v) }
       else
        { s with
          dcc := { s.dcc with dtrrx := v }
          dscr := { s.dscr with rxfull := true, rxfullL := true }
          apbResult := some (.ok none) })

/-- R126: the Fast write of DBGDTRRXext is ignored while Sticky synchronous abort is set; when ready it stores, sets
both flags, clears InstrCompl and its latch and issues the word in DBGITR; otherwise it is refused.
The model's choices: log 27, 29. -/
def Obligations.FastDtrrxWrite : Prop :=
  ∀ (v : Word) (s : State), s.dscr.extdccmode = 0b10#2 →
    (s.dscr.sdabortL = true →
      exec (.apbWrDbgdtrrxextFast v) s = .next { s with apbResult := some (.ignored none) }) ∧
    (s.dscr.sdabortL = false → s.dscr.instrcompl = true → s.dscr.rxfull = false → s.dscr.itren = true →
      exec (.apbWrDbgdtrrxextFast v) s = .next
        { s with
          dcc := { s.dcc with dtrrx := v }
          dscr := { s.dscr with rxfull := true, rxfullL := true, instrcompl := false, instrcomplL := false }
          cpu := { s.cpu with issued := some s.dcc.itr }
          apbResult := some (.ok none) }) ∧
    (s.dscr.sdabortL = false → ¬(s.dscr.instrcompl = true ∧ s.dscr.rxfull = false ∧ s.dscr.itren = true) →
      exec (.apbWrDbgdtrrxextFast v) s = .refused .fastModeNotReady)

/-- R127: the Nonblocking read of DBGDTRTXext is ignored, with a free value, while TXfull_l is 0 and else clears both
flags; its data is DBGDTRTX while TXfull is 1 and free otherwise. -/
def Obligations.NonblockingDtrtxRead : Prop :=
  ∀ s : State, s.dscr.extdccmode = 0b00#2 →
    ∃ d n, (s.dscr.txfullL = true → s.dscr.txfull = true → d = s.dcc.dtrtx ∧ n = s.draws) ∧
      exec .apbRdDbgdtrtxextNonblocking s = .next
        (if s.dscr.txfullL then
          { s with
            dscr := { s.dscr with txfull := false, txfullL := false }
            apbResult := some (.ok (some d))
            draws := n }
         else { s with apbResult := some (.ignored (some d)), draws := n })

/-- R128: the Stall read of DBGDTRTXext is stalled while TXfull is 0, and then held as the debugger's stalled access, and
else returns the data and clears both flags.
The model's choices: log 36. -/
def Obligations.StallDtrtxRead : Prop :=
  ∀ s : State, s.dscr.extdccmode = 0b01#2 →
    exec .apbRdDbgdtrtxextStall s = .next
      (if s.dscr.txfull then
        { s with
          dscr := { s.dscr with txfull := false, txfullL := false }
          apbResult := some (.ok (some s.dcc.dtrtx)) }
       else { s with apbResult := some .stalled, stalledAccess := some .dtrtxRead })

/-- R129: the Fast read of DBGDTRTXext is ignored, with a free value, while Sticky synchronous abort is set; when ready
it returns the data, clears both flags, InstrCompl and its latch, and issues the word in DBGITR; otherwise it is
refused.
The model's choices: log 27, 29. -/
def Obligations.FastDtrtxRead : Prop :=
  ∀ s : State, s.dscr.extdccmode = 0b10#2 →
    (s.dscr.sdabortL = true →
      ∃ d n, exec .apbRdDbgdtrtxextFast s = .next { s with apbResult := some (.ignored (some d)), draws := n }) ∧
    (s.dscr.sdabortL = false → s.dscr.instrcompl = true → s.dscr.txfull = true → s.dscr.itren = true →
      exec .apbRdDbgdtrtxextFast s = .next
        { s with
          dscr := { s.dscr with txfull := false, txfullL := false, instrcompl := false, instrcomplL := false }
          cpu := { s.cpu with issued := some s.dcc.itr }
          apbResult := some (.ok (some s.dcc.dtrtx)) }) ∧
    (s.dscr.sdabortL = false → ¬(s.dscr.instrcompl = true ∧ s.dscr.txfull = true ∧ s.dscr.itren = true) →
      exec .apbRdDbgdtrtxextFast s = .refused .fastModeNotReady)

/-- R130: the Nonblocking write of DBGITR is ignored while Sticky synchronous abort is set or InstrCompl_l is 0, refused
while bit [13] is 0, and else stores the word, clears InstrCompl and its latch and issues it.
The model's choices: log 28, 29. -/
def Obligations.NonblockingItrWrite : Prop :=
  ∀ (v : Word) (s : State), s.dscr.extdccmode = 0b00#2 →
    ((s.dscr.sdabortL = true ∨ s.dscr.instrcomplL = false) →
      exec (.apbWrDbgitrNonblocking v) s = .next { s with apbResult := some (.ignored none) }) ∧
    (s.dscr.sdabortL = false → s.dscr.instrcomplL = true → s.dscr.itren = false →
      exec (.apbWrDbgitrNonblocking v) s = .refused .itrWriteWithItrenClear) ∧
    (s.dscr.sdabortL = false → s.dscr.instrcomplL = true → s.dscr.itren = true →
      exec (.apbWrDbgitrNonblocking v) s = .next
        { s with
          dcc := { s.dcc with itr := v }
          dscr := { s.dscr with instrcompl := false, instrcomplL := false }
          cpu := { s.cpu with issued := some v }
          apbResult := some (.ok none) })

/-- R131: the Stall write of DBGITR is ignored while Sticky synchronous abort is set, else stalled while InstrCompl is
0, else refused while bit [13] is 0, and else stores the word, clears InstrCompl and its latch and issues it.
The model's choices: log 28, 29, 36. -/
def Obligations.StallItrWrite : Prop :=
  ∀ (v : Word) (s : State), s.dscr.extdccmode = 0b01#2 →
    (s.dscr.sdabortL = true →
      exec (.apbWrDbgitrStall v) s = .next { s with apbResult := some (.ignored none) }) ∧
    (s.dscr.sdabortL = false → s.dscr.instrcompl = false →
      exec (.apbWrDbgitrStall v) s = .next
        { s with apbResult := some .stalled, stalledAccess := some (.itrWrite v) }) ∧
    (s.dscr.sdabortL = false → s.dscr.instrcompl = true → s.dscr.itren = false →
      exec (.apbWrDbgitrStall v) s = .refused .itrWriteWithItrenClear) ∧
    (s.dscr.sdabortL = false → s.dscr.instrcompl = true → s.dscr.itren = true →
      exec (.apbWrDbgitrStall v) s = .next
        { s with
          dcc := { s.dcc with itr := v }
          dscr := { s.dscr with instrcompl := false, instrcomplL := false }
          cpu := { s.cpu with issued := some v }
          apbResult := some (.ok none) })

/-- R132: the Fast write of DBGITR is ignored while Sticky synchronous abort is set, refused while InstrCompl is 0, and
else stores the word and neither issues it nor clears a flag.
The model's choices: log 27, 29. -/
def Obligations.FastItrWrite : Prop :=
  ∀ (v : Word) (s : State), s.dscr.extdccmode = 0b10#2 →
    (s.dscr.sdabortL = true →
      exec (.apbWrDbgitrFast v) s = .next { s with apbResult := some (.ignored none) }) ∧
    (s.dscr.sdabortL = false → s.dscr.instrcompl = false →
      exec (.apbWrDbgitrFast v) s = .refused .fastModeNotReady) ∧
    (s.dscr.sdabortL = false → s.dscr.instrcompl = true →
      exec (.apbWrDbgitrFast v) s = .next
        { s with dcc := { s.dcc with itr := v }, apbResult := some (.ok none) })

/-- R133: while Sticky synchronous abort is set no mode-governed access issues an instruction; a DBGITR write in any mode
and a DTR access in Fast mode are ignored and change nothing.
The model's choices: log 29. -/
def Obligations.StickySyncAbortGatesIssue : Prop :=
  ∀ (i : Instr) (m : DccMode) (s : State), i.dccMode = some m → s.dscr.extdccmode = m.code →
    s.dscr.sdabortL = true →
    (∃ t, exec i s = .next t ∧ t.cpu = s.cpu ∧ t.dcc.itr = s.dcc.itr) ∧
    ((m = .fast ∨ ∃ v, i = .apbWrDbgitrNonblocking v ∨ i = .apbWrDbgitrStall v) →
      ∃ d n, exec i s = .next { s with apbResult := some (.ignored d), draws := n })

/-- R135: the write of DBGDRCR always completes: bit [3] clears Sticky pipeline advance, bit [2] the three sticky
exception bits, bit [0] raises the halting debug event (held until taken: log 42).
The model's choices: log 30. -/
def Obligations.DrcrWriteClearsStickyBits : Prop :=
  ∀ (v : Word) (s : State), exec (.apbWrDbgdrcr v) s = .next
    { s with
      dscr :=
        { s.dscr with
          pipeadv := if v.getLsbD 3 then false else s.dscr.pipeadv
          undL := if v.getLsbD 2 then false else s.dscr.undL
          adabortL := if v.getLsbD 2 then false else s.dscr.adabortL
          sdabortL := if v.getLsbD 2 then false else s.dscr.sdabortL }
      haltRequest := if v.getLsbD 0 then true else s.haltRequest
      apbResult := some (.ok none) }

/-- R136, R84, R122: a mode-governed row's meaning is refused in every state whose ExtDCCmode does not select it, with the
spec's own refusal while ExtDCCmode is b11, and with b11 the decoder refuses the row's access too.
The model's choices: log 18, 20. -/
def Obligations.UnselectedModeRefusesAccesses : Prop :=
  ∀ (i : Instr) (m : DccMode) (p : Config.Params) (s : State), i.dccMode = some m → p.wf = true →
    (s.dscr.extdccmode ≠ m.code →
      exec i s =
        .refused (if s.dscr.extdccmode = 0b11#2 then Refusal.reservedExtDccMode else Refusal.modeNotSelected)) ∧
    ∀ a, encode p i = .access a → decodeAccess p 0b11#2 a = .error .reservedExtDccMode

/-- R120, R203: in Nonblocking mode the word the APB read returns tells whether the next access is ignored: bit [27] for
a DBGDTRRXext write, bit [26] for a DBGDTRTXext read and, in debug state with no sticky synchronous abort, bit [24] for
a DBGITR write.
The model's choices: log 25, 50. -/
def Obligations.DscrReadPredictsIgnoredAccesses : Prop :=
  ∀ (s t : State) (v w : Word), s.dscr.extdccmode = 0b00#2 → exec .apbRdDbgdscrext s = .next t →
    t.apbResult = some (.ok (some v)) →
    (v.getLsbD 27 = true ↔
      ∃ u, exec (.apbWrDbgdtrrxextNonblocking w) t = .next u ∧ u.apbResult = some (.ignored none)) ∧
    (v.getLsbD 26 = false ↔
      ∃ u d, exec .apbRdDbgdtrtxextNonblocking t = .next u ∧ u.apbResult = some (.ignored (some d))) ∧
    (s.cpu.dbg ≠ .normal → s.dscr.sdabortL = false →
      (v.getLsbD 24 = false ↔
        ∃ u, exec (.apbWrDbgitrNonblocking w) t = .next u ∧ u.apbResult = some (.ignored none)))

/-- R137, R124 (a), R127 (b), R130 (a), R120 (d): a Nonblocking access never stalls; in a state of the handshake invariant
a write that succeeds overwrites no unread data and issues no instruction while another one is executing; in a state with
(I2) a read that succeeds returns DBGDTRTX and no free value. -/
def Obligations.NonblockingAccessesAreSafe : Prop :=
  ∀ s t : State,
    (∀ i : Instr, i.dccMode = some .nonblocking → exec i s = .next t → t.apbResult ≠ some .stalled) ∧
    (handshake s = true → ∀ v : Word,
      (exec (.apbWrDbgdtrrxextNonblocking v) s = .next t → t.apbResult = some (.ok none) → s.dscr.rxfull = false) ∧
      (exec (.apbWrDbgitrNonblocking v) s = .next t → t.apbResult = some (.ok none) → itrBusy s = false)) ∧
    (txLatchSound s = true → ∀ d : Option Word,
      exec .apbRdDbgdtrtxextNonblocking s = .next t → t.apbResult = some (.ok d) →
        d = some s.dcc.dtrtx ∧ t.draws = s.draws)

/-! Events. -/

/-- R150, R151, R152: `Retire` sets Sticky pipeline advance and nothing else; `ItrDone` ends the issued instruction and
sets InstrCompl but not its latch; `ItrIdle` sets InstrCompl when nothing is executing and the parameter allows it. The
last two are not enabled otherwise.
The model's choices: log 10, 26. -/
def Obligations.RetirementAndCompletionEvents : Prop :=
  ∀ s : State,
    applyEvent .retire s = .next { s with dscr := { s.dscr with pipeadv := true } } ∧
    applyEvent .itrDone s =
      (if itrBusy s then
        .next { s with cpu := { s.cpu with issued := none }, dscr := { s.dscr with instrcompl := true } }
       else .fault (.notEnabled .itrDone)) ∧
    applyEvent .itrIdle s =
      (if s.params.instrcomplTracksIdle = true ∧ itrBusy s = false ∧ s.dscr.instrcompl = false then
        .next { s with dscr := { s.dscr with instrcompl := true } }
       else .fault (.notEnabled .itrIdle))

/-- R153: debug state is entered from normal state by a cause that may halt (a DRCR request only once raised, log 42),
MOE takes its code, and `may_halt` implies DBGEN HIGH. That nothing else of the processor changes on entry is the model's
choice (log 54).
The model's choices: log 32, 37, 42, 54. -/
def Obligations.EnterDebugStateReportsCause : Prop :=
  ∀ (c : Cause) (s : State),
    applyEvent (.enterDebugState c) s =
      (if s.cpu.dbg = .normal ∧ mayHalt s c = true ∧ (c = .haltRequest → s.haltRequest = true) then
        .next
          { s with
            cpu := { s.cpu with dbg := .halted }
            dscr := { s.dscr with moe := moeCode c }
            haltRequest := if c = .haltRequest then false else s.haltRequest }
       else .fault (.notEnabled (.enterDebugState c))) ∧
    (mayHalt s c = true → s.pins.dbgen = true) ∧
    (s.params.haltPolicy = Config.Params.defaults.haltPolicy →
      (mayHalt s c = true ↔ s.pins.dbgen = true ∧
        (c = .haltRequest ∨ c = .externalRequest ∨ s.dscr.hdbgen = true)))

/-- R154, R155, R162: a restart request is accepted only while halted with no issued instruction; the exit is completed
only while exiting and records the fault if bit [13] is still set. The pc at which the processor resumes is free
(log 9); that nothing else of the processor changes over the two is the model's choice (log 54).
The model's choices: log 9, 31, 54. -/
def Obligations.LeavingDebugStateTakesTwoEvents : Prop :=
  ∀ s : State,
    applyEvent .restartRequest s =
      (if s.cpu.dbg = .halted ∧ itrBusy s = false then .next { s with cpu := { s.cpu with dbg := .exiting } }
       else .fault (.notEnabled .restartRequest)) ∧
    (s.cpu.dbg = .exiting → ∃ pc n, applyEvent .exitDebugState s = .next
      { s with
        cpu := { s.cpu with dbg := .normal, pc := pc }
        faults :=
          { s.faults with itrenOutsideDebugState := s.faults.itrenOutsideDebugState || s.dscr.itren }
        draws := n }) ∧
    (s.cpu.dbg ≠ .exiting → applyEvent .exitDebugState s = .fault (.notEnabled .exitDebugState))

/-- R156, R157, R158, R185: an exception in debug state sets its own sticky bit; an Undefined instruction exception and a
synchronous Data Abort also end the issued instruction, if there is one (`ItrDone`), and an asynchronous abort does not.
Nothing else changes, and in normal state the events are not enabled.
The model's choices: log 41, 49. -/
def Obligations.DebugStateExceptionsSetStickyBits : Prop :=
  ∀ s : State,
    (s.cpu.dbg ≠ .normal →
      applyEvent .undefinedInDebugState s = .next
        { s with
          dscr := { s.dscr with undL := true, instrcompl := s.dscr.instrcompl || itrBusy s }
          cpu := { s.cpu with issued := none } } ∧
      applyEvent .syncDataAbortInDebugState s = .next
        { s with
          dscr := { s.dscr with sdabortL := true, instrcompl := s.dscr.instrcompl || itrBusy s }
          cpu := { s.cpu with issued := none } } ∧
      applyEvent .asyncAbortInDebugState s = .next { s with dscr := { s.dscr with adabortL := true } }) ∧
    (s.cpu.dbg = .normal →
      applyEvent .undefinedInDebugState s = .fault (.notEnabled .undefinedInDebugState) ∧
      applyEvent .syncDataAbortInDebugState s = .fault (.notEnabled .syncDataAbortInDebugState) ∧
      applyEvent .asyncAbortInDebugState s = .fault (.notEnabled .asyncAbortInDebugState))

/-- R159, R160: a status change writes the security state and the mode, a signal change its own signal; no stored field
changes, and bit [18] follows at once.
The model's choices: log 46. -/
def Obligations.StatusAndSignalChangesStoreNothing : Prop :=
  ∀ (s : State) (n : Bool) (m : Mode) (level : Bool),
    applyEvent (.processorStatusChange n m) s = .next { s with cpu := { s.cpu with nonsecure := n, mode := m } } ∧
    ns { s with cpu := { s.cpu with nonsecure := n, mode := m } } = (n && decide (m ≠ .monitor)) ∧
    applyEvent (.signalChange .dbgen level) s = .next { s with pins := { s.pins with dbgen := level } } ∧
    applyEvent (.signalChange .niden level) s = .next { s with pins := { s.pins with niden := level } } ∧
    applyEvent (.signalChange .spiden level) s = .next { s with pins := { s.pins with spiden := level } } ∧
    applyEvent (.signalChange .spniden level) s = .next { s with pins := { s.pins with spniden := level } }

/-- R181, R28: a debug exception needs Monitor debug-mode in effect (not while DBGEN is LOW, log 32), normal state and one
of four causes; it writes MOE and an abort is taken, at a free pc (log 9).
The model's choices: log 9, 32, 37, 46, 52, 55. -/
def Obligations.DebugExceptionReportsCause : Prop :=
  ∀ (c : Cause) (s : State),
    let ready := s.cpu.dbg = .normal ∧ s.pins.dbgen = true ∧ s.dscr.mdbgen = true ∧ s.dscr.hdbgen = false ∧
      c ∈ [Cause.breakpoint, .bkptInstruction, .vectorCatch, .syncWatchpoint]
    (ready → ∃ pc n, applyEvent (.debugException c) s = .next
      { s with
        cpu := { s.cpu with pc := pc, result := .trap .debugAbort }
        dscr := { s.dscr with moe := moeCode c }
        draws := n }) ∧
    (¬ready → applyEvent (.debugException c) s = .fault (.notEnabled (.debugException c)))

/-- R31, R183: no interrupt is taken while bit [11] is set with DBGEN HIGH and a debug mode programmed; otherwise the
register does not prevent it. The pc outside debug state is free (log 9).
The model's choices: log 9, 38, 46, 55. -/
def Obligations.InterruptDisableMasksIrqAndFiq : Prop :=
  ∀ (l : Interrupt) (s : State),
    let masked := s.dscr.intdis = true ∧ s.pins.dbgen = true ∧ (s.dscr.mdbgen = true ∨ s.dscr.hdbgen = true)
    (masked → applyEvent (.interrupt l) s = .fault (.notEnabled (.interrupt l))) ∧
    (¬masked → ∃ pc n, applyEvent (.interrupt l) s = .next
      { s with cpu := { s.cpu with pc := pc, result := .trap (interruptException l) }, draws := n } ∧
      (s.cpu.dbg ≠ .normal → pc = s.cpu.pc))

/-- R32, R161: bit [10] forces both outputs HIGH; with the default `ack_by_state` and
`trigger_by_state` they are otherwise HIGH exactly in debug state.
The model's choices: log 39. -/
def Obligations.DbgAckForcesOutputsHigh : Prop :=
  ∀ s : State,
    (s.dscr.dbgack = true → dbgackOut s = true ∧ dbgtriggerOut s = true) ∧
    (s.params.ackByState = Config.Params.defaults.ackByState →
      dbgackOut s = (s.dscr.dbgack || decide (s.cpu.dbg ≠ .normal))) ∧
    (s.params.triggerByState = Config.Params.defaults.triggerByState →
      dbgtriggerOut s = (s.dscr.dbgack || decide (s.cpu.dbg ≠ .normal)))

/-- R104, R105, R83: the two DTR accesses as events without a word are enabled in the processor's own stream in normal
state, and for an issued word that is not in scope; an enabled one is the DTR instruction's meaning.
The model's choices: log 45. -/
def Obligations.DtrEventsAreTheDtrInstructions : Prop :=
  ∀ (rd : BitVec 4) (s : State),
    let possible := (s.cpu.issued = none ∧ s.cpu.dbg = .normal) ∨
      ∃ w, s.cpu.issued = some w ∧ decodeWord s.params w = .error .notInScope
    (possible →
      applyEvent (.readDtrRxInt rd) s = exec (.mrcDbgdtrrxint rd) s ∧
      applyEvent (.writeDtrTxInt rd) s = exec (.mcrDbgdtrtxint rd) s) ∧
    (¬possible →
      applyEvent (.readDtrRxInt rd) s = .fault (.notEnabled (.readDtrRxInt rd)) ∧
      applyEvent (.writeDtrTxInt rd) s = .fault (.notEnabled (.writeDtrTxInt rd)))

/-! Steps. -/

/-- R134, R153 (b): a processor step runs the instruction its word decodes to, the issued word if there is one, else the
next word of its stream in normal state; around it the step takes the turn and the word off the queues and makes the
check of R162. In debug state with nothing issued the processor fetches nothing, and its turn is no step (log 48).
The model's choices: log 6, 48. -/
def Obligations.ProcessorStepRunsDecodedWord : Prop :=
  ∀ (s : State) (rest : List Agent), s.agenda.schedule = .processor :: rest →
    (∀ (w : Word) (i : Instr), decodeWord s.params w = .ok i →
      (s.cpu.issued = some w →
        step s = mapNext checkItren (exec i { s with agenda := { s.agenda with schedule := rest } })) ∧
      (∀ ws : List Word, s.cpu.issued = none → s.cpu.dbg = .normal → s.agenda.program = w :: ws →
        step s = mapNext checkItren
          (exec i { s with agenda := { s.agenda with schedule := rest, program := ws } }))) ∧
    (s.cpu.issued = none → s.cpu.dbg ≠ .normal → step s = .fault (.nothingToDo .processor))

/-- R64, R84: a debugger step with no access stalled runs the row its next access decodes to under the current ExtDCCmode;
around it the step takes the turn and the access off the queues and makes the check of R162.
The model's choices: log 6, 36. -/
def Obligations.DebuggerStepRunsDecodedAccess : Prop :=
  ∀ (s : State) (rest : List Agent) (a : Access) (more : List Access) (i : Instr),
    s.agenda.schedule = .debugger :: rest → s.stalledAccess = none → s.agenda.accesses = a :: more →
    decodeAccess s.params s.dscr.extdccmode a = .ok i →
    step s = mapNext checkItren
      (exec i { s with agenda := { s.agenda with schedule := rest, accesses := more } })

/-- R3: a step of the hardware or the environment delivers its next event; around it the step takes the turn and the
event off the queues and makes the check of R162.
The model's choices: log 6, 33, 48. -/
def Obligations.HardwareStepDeliversEvent : Prop :=
  ∀ (s : State) (rest : List Agent) (e : Event) (es : List Event),
    s.agenda.schedule = .hardware :: rest → s.agenda.events = e :: es →
    step s = mapNext checkItren
      (applyEvent e { s with agenda := { s.agenda with schedule := rest, events := es } })

/-- R71, R123, R125, R128, R131: a debugger step whose Stall-mode access cannot complete changes nothing but the turn, the
result and the fault of R162, and the access is held. While one is held the debugger's steps do nothing but evaluate it,
by its own Stall-mode rule and whatever ExtDCCmode is by then (R121 b): it waits until RXfull is 0, TXfull is 1 or
InstrCompl is 1, then completes with the effects of a success; a held write of DBGITR is ignored once Sticky synchronous
abort is set (R131 a). A held read whose stall a reset has ended waits no more: the debugger's next turn answers it by
the rule of the mode a reset leaves (R128, R200, R127).
The model's choices: log 28, 29, 36. -/
def Obligations.StalledAccessIsHeldUntilItsCondition : Prop :=
  ∀ (s : State) (rest : List Agent), s.agenda.schedule = .debugger :: rest →
    let checked : FaultSet :=
      { s.faults with itrenOutsideDebugState :=
          s.faults.itrenOutsideDebugState || (s.dscr.itren && decide (s.cpu.dbg = .normal)) }
    let u : State := { s with agenda := { s.agenda with schedule := rest }, faults := checked }
    (∀ (a : Access) (more : List Access) (i : Instr) (p : StalledAccess),
      s.stalledAccess = none → s.agenda.accesses = a :: more → decodeAccess s.params s.dscr.extdccmode a = .ok i →
      ((∃ v, i = .apbWrDbgdtrrxextStall v ∧ p = .dtrrxWrite v ∧ s.dscr.rxfull = true) ∨
        (i = .apbRdDbgdtrtxextStall ∧ p = .dtrtxRead ∧ s.dscr.txfull = false) ∨
        (∃ v, i = .apbWrDbgitrStall v ∧ p = .itrWrite v ∧ s.dscr.sdabortL = false ∧ s.dscr.instrcompl = false)) →
      step s = .next
        { s with
          agenda := { s.agenda with schedule := rest, accesses := more }
          apbResult := some .stalled
          stalledAccess := some p
          faults := checked }) ∧
    (∀ v, s.stalledAccess = some (.dtrrxWrite v) →
      step s = .next
        (if s.dscr.rxfull then { u with apbResult := some .stalled }
         else
          { u with
            dcc := { s.dcc with dtrrx := v }
            dscr := { s.dscr with rxfull := true, rxfullL := true }
            apbResult := some (.ok none)
            stalledAccess := none })) ∧
    (s.stalledAccess = some .dtrtxRead →
      step s = .next
        (if s.dscr.txfull then
          { u with
            dscr := { s.dscr with txfull := false, txfullL := false }
            apbResult := some (.ok (some s.dcc.dtrtx))
            stalledAccess := none }
         else { u with apbResult := some .stalled })) ∧
    (s.stalledAccess = some .dtrtxReadEnded →
      ∃ d n, (s.dscr.txfullL = true → s.dscr.txfull = true → d = s.dcc.dtrtx ∧ n = s.draws) ∧
        step s = .next
          (if s.dscr.txfullL then
            { u with
              dscr := { s.dscr with txfull := false, txfullL := false }
              apbResult := some (.ok (some d))
              stalledAccess := none
              draws := n }
           else { u with apbResult := some (.ignored (some d)), stalledAccess := none, draws := n })) ∧
    (∀ v, s.stalledAccess = some (.itrWrite v) →
      (s.dscr.sdabortL = true → step s = .next { u with apbResult := some (.ignored none), stalledAccess := none }) ∧
      (s.dscr.sdabortL = false → s.dscr.instrcompl = false → step s = .next { u with apbResult := some .stalled }) ∧
      (s.dscr.sdabortL = false → s.dscr.instrcompl = true → s.dscr.itren = false →
        step s = .refused .itrWriteWithItrenClear) ∧
      (s.dscr.sdabortL = false → s.dscr.instrcompl = true → s.dscr.itren = true →
        step s = .next
          { u with
            dcc := { s.dcc with itr := v }
            dscr := { s.dscr with instrcompl := false, instrcomplL := false }
            cpu := { s.cpu with issued := some v }
            apbResult := some (.ok none)
            stalledAccess := none }))

/-- R125, R104: a Stall-mode write of DBGDTRRXext that finds the register full completes after the processor has read it,
and the processor got the old word.
The model's choices: log 36, 45. -/
def Obligations.StalledWriteCompletesAfterRead : Prop :=
  ∀ (s : State) (rest : List Agent) (a : Access) (more : List Access) (v : Word) (rd : BitVec 4) (es : List Event),
    s.agenda.schedule = .debugger :: .hardware :: .debugger :: rest →
    s.stalledAccess = none → s.agenda.accesses = a :: more →
    s.agenda.events = .readDtrRxInt rd :: es →
    decodeAccess s.params s.dscr.extdccmode a = .ok (.apbWrDbgdtrrxextStall v) →
    s.dscr.rxfull = true → rd ≠ 15#4 → s.cpu.issued = none → s.cpu.dbg = .normal →
    ¬(s.cpu.mode = .user ∧ s.dscr.udccdis = true) →
    ∃ t, Sys2Proof.core.run 3 s = .next t ∧ t.dcc.dtrrx = v ∧ t.dscr.rxfull = true ∧ t.dscr.rxfullL = true ∧
      readReg t rd = s.dcc.dtrrx ∧ t.apbResult = some (.ok none) ∧ t.agenda.accesses = more ∧ t.stalledAccess = none

/-- R90, R63: a word or an access the decoder rejects is refused under the decoder's own name, never a no-op: an issued
word, a word of the processor's own stream, an access of the debugger.
The model's choices: log 15, 16. -/
def Obligations.RejectedInputIsRefused : Prop :=
  ∀ (s : State) (rest : List Agent),
    (∀ (w : Word) (e : DecodeError), s.agenda.schedule = .processor :: rest → decodeWord s.params w = .error e →
      (s.cpu.issued = some w → step s = .refused (refusalOf e)) ∧
      (∀ ws : List Word, s.cpu.issued = none → s.cpu.dbg = .normal → s.agenda.program = w :: ws →
        step s = .refused (refusalOf e))) ∧
    (∀ (a : Access) (more : List Access) (e : DecodeError), s.agenda.schedule = .debugger :: rest →
      s.stalledAccess = none → s.agenda.accesses = a :: more →
      decodeAccess s.params s.dscr.extdccmode a = .error e → step s = .refused (refusalOf e)) ∧
    (∀ (a : Access) (m : BitVec 2), (a.size ≠ .word ∨ s.params.dbgBase ≤ a.addr ∧ (a.addr - s.params.dbgBase) % 4 ≠ 0) →
      decodeAccess s.params m a = .error .unsupportedApbAccess)

/-- The model's interface (log 17): a CP14 row's word placed by `withFetchWord` in a normal state with nothing issued is
the instruction the very next step runs.
The model's choices: log 6, 14, 17. -/
def Obligations.PlacedWordRunsNext : Prop :=
  ∀ (s : State) (nbits w : Nat) (i : Instr) (x : Word), decodeTableWord nbits w = some i →
    encode s.params i = .word x → s.cpu.issued = none → s.cpu.dbg = .normal →
    step (s.withFetchWord nbits w) = mapNext checkItren
      (exec i { s with params := { s.params with decodeDtrInt := s.params.decodeDtrInt || i.isDtrInt } })

/-! Encodings. -/

/-- R82: the words of the three printed forms, of the refused form and of the two DTR forms, written out from the bit
layout, decode to the instructions they stand for.
The model's choices: log 12, 13, 14. -/
def Obligations.PrintedWordsDecode : Prop :=
  decodeWord Config.Params.defaults 0xEE101E11#32 = .ok (.mrcDbgdscrint 1#4) ∧
  decodeWord Config.Params.defaults 0xEE10EE52#32 = .ok (.mrcDbgdscrext 14#4) ∧
  decodeWord Config.Params.defaults 0xEE007E52#32 = .ok (.mcrDbgdscrext 7#4) ∧
  decodeWord Config.Params.defaults 0xEE000E11#32 = .ok (.mcrDbgdscrintRefused 0#4) ∧
  decodeWord tableParams 0xEE101E15#32 = .ok (.mrcDbgdtrrxint 1#4) ∧
  decodeWord tableParams 0xEE002E15#32 = .ok (.mcrDbgdtrtxint 2#4) ∧
  decodeWord Config.Params.defaults 0xEE101E15#32 = .error .notInScope ∧
  decodeWord Config.Params.defaults 0xEE10FE11#32 = .error .rdIsPc

/-- R82, R84: for every set of parameters that meets D6 and every mode, decoding the encoding of an instruction gives the
instruction back, with every operand at every value its encoding admits.
The model's choices: log 13, 14, 15. -/
def Obligations.DecodeEncodeAgree : Prop :=
  ∀ (p : Config.Params) (m : BitVec 2) (i : Instr), p.wf = true → i.encodable p m = true →
    decode p m (encode p i) = .ok i

/-- R82, R84, R90: what decodes to an instruction is that instruction's encoding, so no two of them share one and no bit
is ignored (a read carries no data).
The model's choices: log 13, 14, 15. -/
def Obligations.EncodeDecodeAgree : Prop :=
  ∀ (p : Config.Params) (m : BitVec 2) (e : Encoding) (i : Instr), decode p m e = .ok i →
    i.encodable p m = true ∧
    match e with
    | .word w => encode p i = .word w
    | .access a => encode p i = .access { a with data := if a.dir = .read then 0#32 else a.data }

/-! Invariants and whole-machine rules. -/

/-- R122 (I1), (I3), R87 (b): the handshake invariant holds at reset.
The model's choices: log 1, 26. -/
def Obligations.HandshakeHoldsAtReset : Prop :=
  handshake State.reset = true ∧ txLatchSound State.reset = true ∧ itrenChecked State.reset = true ∧
    faultFree State.reset = true

/-- R122 (I1), (I3), half of (I4), R87 (b): every step keeps the handshake invariant: RXfull implies RXfull_l, InstrCompl_l
implies InstrCompl, InstrCompl implies that no issued instruction is executing, and ExtDCCmode is never b11.
The model's choices: log 20, 25, 26. -/
def Obligations.EveryStepKeepsHandshake : Prop :=
  ∀ s t : State, handshake s = true → step s = .next t → handshake t = true

/-- R122 (I2): TXfull_l implies TXfull is kept by every step that is no reset of the register and after which no write
of a full DBGDTRTX is recorded.
The model's choices: log 25, 34. -/
def Obligations.TxLatchStaysSoundWithoutFault : Prop :=
  ∀ s t : State, txLatchSound s = true → step s = .next t → t.faults.dtrTxWriteWhileFull = false →
    (∀ p, deliversNext (.reset p true) s = false) → txLatchSound t = true

/-- R122 (I4): while InstrCompl = 0 exactly when an issued instruction is executing, every step but a reset keeps it so.
The model's choices: log 26, 41. -/
def Obligations.InstrComplTracksExecution : Prop :=
  ∀ s t : State, s.dscr.instrcompl = !itrBusy s → step s = .next t →
    (∀ p d, deliversNext (.reset p d) s = false) → t.dscr.instrcompl = !itrBusy t

/-- R4, R7, R162: no step clears a recorded fault or changes a parameter, and after every step bit [13] set outside debug
state has its fault recorded.
The model's choices: log 8. -/
def Obligations.FaultsPersistAndItrenIsChecked : Prop :=
  ∀ s t : State, step s = .next t → faultsKept s t = true ∧ t.params = s.params ∧ itrenChecked t = true

/-- R33, R34, R35, R135: a sticky exception bit is cleared only by a write of 1 to DBGDRCR[2] or by a reset of the
register (R200); a reset of the processor alone keeps it, by the split of decision D24 (log 34).
The model's choices: log 34, 43. -/
def Obligations.OnlyDrcrOrResetClearsStickyBits : Prop :=
  ∀ s t : State, step s = .next t →
    ((s.dscr.undL = true → t.dscr.undL = true) ∧ (s.dscr.adabortL = true → t.dscr.adabortL = true) ∧
      (s.dscr.sdabortL = true → t.dscr.sdabortL = true)) ∨
    (∃ p, deliversNext (.reset p true) s = true) ∨
    (∃ a v, s.agenda.schedule.head? = some .debugger ∧ s.stalledAccess = none ∧ s.agenda.accesses.head? = some a ∧
      decodeAccess s.params s.dscr.extdccmode a = .ok (.apbWrDbgdrcr v) ∧ v.getLsbD 2 = true)

/-- R40, R100: a processor step in User mode changes none of the eight read and write fields.
The model's choices: log 23. -/
def Obligations.UserModeCannotWriteControls : Prop :=
  ∀ s t : State, s.cpu.mode = .user → s.agenda.schedule.head? = some .processor → step s = .next t →
    sameControls t.dscr s.dscr = true

/-- R36, R87 (c), (d), R182: an event writes MOE, if at all, with one of the six codes hardware reports, or with the
reset value b0000.
The model's choices: log 37. -/
def Obligations.HardwareWritesOnlyDefinedMoeCodes : Prop :=
  ∀ s t : State, s.agenda.schedule.head? = some .hardware → step s = .next t →
    t.dscr.moe = s.dscr.moe ∨
      t.dscr.moe ∈ [0b0000#4, 0b0001#4, 0b0011#4, 0b0100#4, 0b0101#4, 0b1010#4]

/-- R84, R122: the mode under which the debugger's access is decoded is the mode its row is made in, so no step is ever
refused for the wrong mode.
The model's choices: log 18. -/
def Obligations.NoStepMeetsTheWrongMode : Prop :=
  ∀ s : State, step s ≠ .refused .modeNotSelected
end

