-- ==== Sys2Proof/Laws/State.lean ====
section
/-!
SUPPORT. One lemma for each field of `State` and each named update, true by rfl, so that a proof simplifies an update
away without unfolding it.
-/

namespace Sys2Proof.Machine

variable (s : State)

@[simp] theorem useDraws_dscr (k : Nat) : (useDraws k s).dscr = s.dscr := rfl
@[simp] theorem useDraws_dcc (k : Nat) : (useDraws k s).dcc = s.dcc := rfl
@[simp] theorem useDraws_cpu (k : Nat) : (useDraws k s).cpu = s.cpu := rfl
@[simp] theorem useDraws_pins (k : Nat) : (useDraws k s).pins = s.pins := rfl
@[simp] theorem useDraws_haltRequest (k : Nat) : (useDraws k s).haltRequest = s.haltRequest := rfl
@[simp] theorem useDraws_apbResult (k : Nat) : (useDraws k s).apbResult = s.apbResult := rfl
@[simp] theorem useDraws_stalledAccess (k : Nat) : (useDraws k s).stalledAccess = s.stalledAccess := rfl
@[simp] theorem useDraws_faults (k : Nat) : (useDraws k s).faults = s.faults := rfl
@[simp] theorem useDraws_agenda (k : Nat) : (useDraws k s).agenda = s.agenda := rfl
@[simp] theorem useDraws_draws (k : Nat) : (useDraws k s).draws = s.draws + k := rfl
@[simp] theorem useDraws_params (k : Nat) : (useDraws k s).params = s.params := rfl

@[simp] theorem writeReg_dscr (rd : BitVec 4) (v : Word) : (writeReg rd v s).dscr = s.dscr := rfl
@[simp] theorem writeReg_dcc (rd : BitVec 4) (v : Word) : (writeReg rd v s).dcc = s.dcc := rfl
@[simp] theorem writeReg_cpu (rd : BitVec 4) (v : Word) :
    (writeReg rd v s).cpu = { s.cpu with x := s.cpu.x.setIfInBounds rd.toNat v } := rfl
@[simp] theorem writeReg_pins (rd : BitVec 4) (v : Word) : (writeReg rd v s).pins = s.pins := rfl
@[simp] theorem writeReg_haltRequest (rd : BitVec 4) (v : Word) : (writeReg rd v s).haltRequest = s.haltRequest := rfl
@[simp] theorem writeReg_apbResult (rd : BitVec 4) (v : Word) : (writeReg rd v s).apbResult = s.apbResult := rfl
@[simp] theorem writeReg_stalledAccess (rd : BitVec 4) (v : Word) :
    (writeReg rd v s).stalledAccess = s.stalledAccess := rfl
@[simp] theorem writeReg_faults (rd : BitVec 4) (v : Word) : (writeReg rd v s).faults = s.faults := rfl
@[simp] theorem writeReg_agenda (rd : BitVec 4) (v : Word) : (writeReg rd v s).agenda = s.agenda := rfl
@[simp] theorem writeReg_draws (rd : BitVec 4) (v : Word) : (writeReg rd v s).draws = s.draws := rfl
@[simp] theorem writeReg_params (rd : BitVec 4) (v : Word) : (writeReg rd v s).params = s.params := rfl

@[simp] theorem recordDtrTxFault_dscr : (recordDtrTxFault s).dscr = s.dscr := rfl
@[simp] theorem recordDtrTxFault_dcc : (recordDtrTxFault s).dcc = s.dcc := rfl
@[simp] theorem recordDtrTxFault_cpu : (recordDtrTxFault s).cpu = s.cpu := rfl
@[simp] theorem recordDtrTxFault_pins : (recordDtrTxFault s).pins = s.pins := rfl
@[simp] theorem recordDtrTxFault_haltRequest : (recordDtrTxFault s).haltRequest = s.haltRequest := rfl
@[simp] theorem recordDtrTxFault_apbResult : (recordDtrTxFault s).apbResult = s.apbResult := rfl
@[simp] theorem recordDtrTxFault_stalledAccess : (recordDtrTxFault s).stalledAccess = s.stalledAccess := rfl
@[simp] theorem recordDtrTxFault_faults :
    (recordDtrTxFault s).faults = { s.faults with dtrTxWriteWhileFull := true } := rfl
@[simp] theorem recordDtrTxFault_agenda : (recordDtrTxFault s).agenda = s.agenda := rfl
@[simp] theorem recordDtrTxFault_draws : (recordDtrTxFault s).draws = s.draws := rfl
@[simp] theorem recordDtrTxFault_params : (recordDtrTxFault s).params = s.params := rfl

@[simp] theorem checkItren_dscr : (checkItren s).dscr = s.dscr := rfl
@[simp] theorem checkItren_dcc : (checkItren s).dcc = s.dcc := rfl
@[simp] theorem checkItren_cpu : (checkItren s).cpu = s.cpu := rfl
@[simp] theorem checkItren_pins : (checkItren s).pins = s.pins := rfl
@[simp] theorem checkItren_haltRequest : (checkItren s).haltRequest = s.haltRequest := rfl
@[simp] theorem checkItren_apbResult : (checkItren s).apbResult = s.apbResult := rfl
@[simp] theorem checkItren_stalledAccess : (checkItren s).stalledAccess = s.stalledAccess := rfl
@[simp] theorem checkItren_faults :
    (checkItren s).faults = { s.faults with itrenOutsideDebugState := s.faults.itrenOutsideDebugState || itrenOutsideDebugState s } := rfl
@[simp] theorem checkItren_agenda : (checkItren s).agenda = s.agenda := rfl
@[simp] theorem checkItren_draws : (checkItren s).draws = s.draws := rfl
@[simp] theorem checkItren_params : (checkItren s).params = s.params := rfl

@[simp] theorem itrDone_dscr : (itrDone s).dscr = { s.dscr with instrcompl := true } := rfl
@[simp] theorem itrDone_dcc : (itrDone s).dcc = s.dcc := rfl
@[simp] theorem itrDone_cpu : (itrDone s).cpu = { s.cpu with issued := none } := rfl
@[simp] theorem itrDone_pins : (itrDone s).pins = s.pins := rfl
@[simp] theorem itrDone_haltRequest : (itrDone s).haltRequest = s.haltRequest := rfl
@[simp] theorem itrDone_apbResult : (itrDone s).apbResult = s.apbResult := rfl
@[simp] theorem itrDone_stalledAccess : (itrDone s).stalledAccess = s.stalledAccess := rfl
@[simp] theorem itrDone_faults : (itrDone s).faults = s.faults := rfl
@[simp] theorem itrDone_agenda : (itrDone s).agenda = s.agenda := rfl
@[simp] theorem itrDone_draws : (itrDone s).draws = s.draws := rfl
@[simp] theorem itrDone_params : (itrDone s).params = s.params := rfl

@[simp] theorem jumpAnywhere_dscr : (jumpAnywhere s).dscr = s.dscr := rfl
@[simp] theorem jumpAnywhere_dcc : (jumpAnywhere s).dcc = s.dcc := rfl
@[simp] theorem jumpAnywhere_cpu : (jumpAnywhere s).cpu = { s.cpu with pc := drawnWord s 0 } := rfl
@[simp] theorem jumpAnywhere_pins : (jumpAnywhere s).pins = s.pins := rfl
@[simp] theorem jumpAnywhere_haltRequest : (jumpAnywhere s).haltRequest = s.haltRequest := rfl
@[simp] theorem jumpAnywhere_apbResult : (jumpAnywhere s).apbResult = s.apbResult := rfl
@[simp] theorem jumpAnywhere_stalledAccess : (jumpAnywhere s).stalledAccess = s.stalledAccess := rfl
@[simp] theorem jumpAnywhere_faults : (jumpAnywhere s).faults = s.faults := rfl
@[simp] theorem jumpAnywhere_agenda : (jumpAnywhere s).agenda = s.agenda := rfl
@[simp] theorem jumpAnywhere_draws : (jumpAnywhere s).draws = s.draws + 1 := rfl
@[simp] theorem jumpAnywhere_params : (jumpAnywhere s).params = s.params := rfl

@[simp] theorem enterDebug_dscr (c : Cause) : (enterDebug c s).dscr = { s.dscr with moe := moeCode c } := rfl
@[simp] theorem enterDebug_dcc (c : Cause) : (enterDebug c s).dcc = s.dcc := rfl
@[simp] theorem enterDebug_cpu (c : Cause) : (enterDebug c s).cpu = { s.cpu with dbg := .halted } := rfl
@[simp] theorem enterDebug_pins (c : Cause) : (enterDebug c s).pins = s.pins := rfl
@[simp] theorem enterDebug_haltRequest (c : Cause) :
    (enterDebug c s).haltRequest = (s.haltRequest && decide (c ≠ .haltRequest)) := rfl
@[simp] theorem enterDebug_apbResult (c : Cause) : (enterDebug c s).apbResult = s.apbResult := rfl
@[simp] theorem enterDebug_stalledAccess (c : Cause) : (enterDebug c s).stalledAccess = s.stalledAccess := rfl
@[simp] theorem enterDebug_faults (c : Cause) : (enterDebug c s).faults = s.faults := rfl
@[simp] theorem enterDebug_agenda (c : Cause) : (enterDebug c s).agenda = s.agenda := rfl
@[simp] theorem enterDebug_draws (c : Cause) : (enterDebug c s).draws = s.draws := rfl
@[simp] theorem enterDebug_params (c : Cause) : (enterDebug c s).params = s.params := rfl

@[simp] theorem copyLatches_dscr :
    (copyLatches s).dscr = { s.dscr with rxfullL := s.dscr.rxfull, txfullL := s.dscr.txfull, instrcomplL := s.dscr.instrcompl } := rfl
@[simp] theorem copyLatches_dcc : (copyLatches s).dcc = s.dcc := rfl
@[simp] theorem copyLatches_cpu : (copyLatches s).cpu = s.cpu := rfl
@[simp] theorem copyLatches_pins : (copyLatches s).pins = s.pins := rfl
@[simp] theorem copyLatches_haltRequest : (copyLatches s).haltRequest = s.haltRequest := rfl
@[simp] theorem copyLatches_apbResult : (copyLatches s).apbResult = s.apbResult := rfl
@[simp] theorem copyLatches_stalledAccess : (copyLatches s).stalledAccess = s.stalledAccess := rfl
@[simp] theorem copyLatches_faults : (copyLatches s).faults = s.faults := rfl
@[simp] theorem copyLatches_agenda : (copyLatches s).agenda = s.agenda := rfl
@[simp] theorem copyLatches_draws : (copyLatches s).draws = s.draws := rfl
@[simp] theorem copyLatches_params : (copyLatches s).params = s.params := rfl

@[simp] theorem answer_dscr (r : ApbResult) : (answer r s).dscr = s.dscr := rfl
@[simp] theorem answer_dcc (r : ApbResult) : (answer r s).dcc = s.dcc := rfl
@[simp] theorem answer_cpu (r : ApbResult) : (answer r s).cpu = s.cpu := rfl
@[simp] theorem answer_pins (r : ApbResult) : (answer r s).pins = s.pins := rfl
@[simp] theorem answer_haltRequest (r : ApbResult) : (answer r s).haltRequest = s.haltRequest := rfl
@[simp] theorem answer_apbResult (r : ApbResult) : (answer r s).apbResult = some r := rfl
@[simp] theorem answer_stalledAccess (r : ApbResult) : (answer r s).stalledAccess = s.stalledAccess := rfl
@[simp] theorem answer_faults (r : ApbResult) : (answer r s).faults = s.faults := rfl
@[simp] theorem answer_agenda (r : ApbResult) : (answer r s).agenda = s.agenda := rfl
@[simp] theorem answer_draws (r : ApbResult) : (answer r s).draws = s.draws := rfl
@[simp] theorem answer_params (r : ApbResult) : (answer r s).params = s.params := rfl

@[simp] theorem storeDtrrx_dscr (v : Word) :
    (storeDtrrx v s).dscr = { s.dscr with rxfull := true, rxfullL := true } := rfl
@[simp] theorem storeDtrrx_dcc (v : Word) : (storeDtrrx v s).dcc = { s.dcc with dtrrx := v } := rfl
@[simp] theorem storeDtrrx_cpu (v : Word) : (storeDtrrx v s).cpu = s.cpu := rfl
@[simp] theorem storeDtrrx_pins (v : Word) : (storeDtrrx v s).pins = s.pins := rfl
@[simp] theorem storeDtrrx_haltRequest (v : Word) : (storeDtrrx v s).haltRequest = s.haltRequest := rfl
@[simp] theorem storeDtrrx_apbResult (v : Word) : (storeDtrrx v s).apbResult = s.apbResult := rfl
@[simp] theorem storeDtrrx_stalledAccess (v : Word) : (storeDtrrx v s).stalledAccess = s.stalledAccess := rfl
@[simp] theorem storeDtrrx_faults (v : Word) : (storeDtrrx v s).faults = s.faults := rfl
@[simp] theorem storeDtrrx_agenda (v : Word) : (storeDtrrx v s).agenda = s.agenda := rfl
@[simp] theorem storeDtrrx_draws (v : Word) : (storeDtrrx v s).draws = s.draws := rfl
@[simp] theorem storeDtrrx_params (v : Word) : (storeDtrrx v s).params = s.params := rfl

@[simp] theorem takeDtrtx_dscr : (takeDtrtx s).dscr = { s.dscr with txfull := false, txfullL := false } := rfl
@[simp] theorem takeDtrtx_dcc : (takeDtrtx s).dcc = s.dcc := rfl
@[simp] theorem takeDtrtx_cpu : (takeDtrtx s).cpu = s.cpu := rfl
@[simp] theorem takeDtrtx_pins : (takeDtrtx s).pins = s.pins := rfl
@[simp] theorem takeDtrtx_haltRequest : (takeDtrtx s).haltRequest = s.haltRequest := rfl
@[simp] theorem takeDtrtx_apbResult : (takeDtrtx s).apbResult = s.apbResult := rfl
@[simp] theorem takeDtrtx_stalledAccess : (takeDtrtx s).stalledAccess = s.stalledAccess := rfl
@[simp] theorem takeDtrtx_faults : (takeDtrtx s).faults = s.faults := rfl
@[simp] theorem takeDtrtx_agenda : (takeDtrtx s).agenda = s.agenda := rfl
@[simp] theorem takeDtrtx_draws : (takeDtrtx s).draws = s.draws := rfl
@[simp] theorem takeDtrtx_params : (takeDtrtx s).params = s.params := rfl

@[simp] theorem storeItr_dscr (v : Word) : (storeItr v s).dscr = s.dscr := rfl
@[simp] theorem storeItr_dcc (v : Word) : (storeItr v s).dcc = { s.dcc with itr := v } := rfl
@[simp] theorem storeItr_cpu (v : Word) : (storeItr v s).cpu = s.cpu := rfl
@[simp] theorem storeItr_pins (v : Word) : (storeItr v s).pins = s.pins := rfl
@[simp] theorem storeItr_haltRequest (v : Word) : (storeItr v s).haltRequest = s.haltRequest := rfl
@[simp] theorem storeItr_apbResult (v : Word) : (storeItr v s).apbResult = s.apbResult := rfl
@[simp] theorem storeItr_stalledAccess (v : Word) : (storeItr v s).stalledAccess = s.stalledAccess := rfl
@[simp] theorem storeItr_faults (v : Word) : (storeItr v s).faults = s.faults := rfl
@[simp] theorem storeItr_agenda (v : Word) : (storeItr v s).agenda = s.agenda := rfl
@[simp] theorem storeItr_draws (v : Word) : (storeItr v s).draws = s.draws := rfl
@[simp] theorem storeItr_params (v : Word) : (storeItr v s).params = s.params := rfl

@[simp] theorem clearInstrCompl_dscr :
    (clearInstrCompl s).dscr = { s.dscr with instrcompl := false, instrcomplL := false } := rfl
@[simp] theorem clearInstrCompl_dcc : (clearInstrCompl s).dcc = s.dcc := rfl
@[simp] theorem clearInstrCompl_cpu : (clearInstrCompl s).cpu = s.cpu := rfl
@[simp] theorem clearInstrCompl_pins : (clearInstrCompl s).pins = s.pins := rfl
@[simp] theorem clearInstrCompl_haltRequest : (clearInstrCompl s).haltRequest = s.haltRequest := rfl
@[simp] theorem clearInstrCompl_apbResult : (clearInstrCompl s).apbResult = s.apbResult := rfl
@[simp] theorem clearInstrCompl_stalledAccess : (clearInstrCompl s).stalledAccess = s.stalledAccess := rfl
@[simp] theorem clearInstrCompl_faults : (clearInstrCompl s).faults = s.faults := rfl
@[simp] theorem clearInstrCompl_agenda : (clearInstrCompl s).agenda = s.agenda := rfl
@[simp] theorem clearInstrCompl_draws : (clearInstrCompl s).draws = s.draws := rfl
@[simp] theorem clearInstrCompl_params : (clearInstrCompl s).params = s.params := rfl

@[simp] theorem issue_dscr (w : Word) : (issue w s).dscr = s.dscr := rfl
@[simp] theorem issue_dcc (w : Word) : (issue w s).dcc = s.dcc := rfl
@[simp] theorem issue_cpu (w : Word) : (issue w s).cpu = { s.cpu with issued := some w } := rfl
@[simp] theorem issue_pins (w : Word) : (issue w s).pins = s.pins := rfl
@[simp] theorem issue_haltRequest (w : Word) : (issue w s).haltRequest = s.haltRequest := rfl
@[simp] theorem issue_apbResult (w : Word) : (issue w s).apbResult = s.apbResult := rfl
@[simp] theorem issue_stalledAccess (w : Word) : (issue w s).stalledAccess = s.stalledAccess := rfl
@[simp] theorem issue_faults (w : Word) : (issue w s).faults = s.faults := rfl
@[simp] theorem issue_agenda (w : Word) : (issue w s).agenda = s.agenda := rfl
@[simp] theorem issue_draws (w : Word) : (issue w s).draws = s.draws := rfl
@[simp] theorem issue_params (w : Word) : (issue w s).params = s.params := rfl

@[simp] theorem waitStalled_dscr (p : StalledAccess) : (waitStalled p s).dscr = s.dscr := rfl
@[simp] theorem waitStalled_dcc (p : StalledAccess) : (waitStalled p s).dcc = s.dcc := rfl
@[simp] theorem waitStalled_cpu (p : StalledAccess) : (waitStalled p s).cpu = s.cpu := rfl
@[simp] theorem waitStalled_pins (p : StalledAccess) : (waitStalled p s).pins = s.pins := rfl
@[simp] theorem waitStalled_haltRequest (p : StalledAccess) : (waitStalled p s).haltRequest = s.haltRequest := rfl
@[simp] theorem waitStalled_apbResult (p : StalledAccess) : (waitStalled p s).apbResult = some .stalled := rfl
@[simp] theorem waitStalled_stalledAccess (p : StalledAccess) : (waitStalled p s).stalledAccess = some p := rfl
@[simp] theorem waitStalled_faults (p : StalledAccess) : (waitStalled p s).faults = s.faults := rfl
@[simp] theorem waitStalled_agenda (p : StalledAccess) : (waitStalled p s).agenda = s.agenda := rfl
@[simp] theorem waitStalled_draws (p : StalledAccess) : (waitStalled p s).draws = s.draws := rfl
@[simp] theorem waitStalled_params (p : StalledAccess) : (waitStalled p s).params = s.params := rfl

@[simp] theorem retireBare_dscr : (retireBare s).dscr = { s.dscr with pipeadv := true } := rfl
@[simp] theorem retireBare_dcc : (retireBare s).dcc = s.dcc := rfl
@[simp] theorem retireBare_cpu : (retireBare s).cpu = s.cpu := rfl
@[simp] theorem retireBare_pins : (retireBare s).pins = s.pins := rfl
@[simp] theorem retireBare_haltRequest : (retireBare s).haltRequest = s.haltRequest := rfl
@[simp] theorem retireBare_apbResult : (retireBare s).apbResult = s.apbResult := rfl
@[simp] theorem retireBare_stalledAccess : (retireBare s).stalledAccess = s.stalledAccess := rfl
@[simp] theorem retireBare_faults : (retireBare s).faults = s.faults := rfl
@[simp] theorem retireBare_agenda : (retireBare s).agenda = s.agenda := rfl
@[simp] theorem retireBare_draws : (retireBare s).draws = s.draws := rfl
@[simp] theorem retireBare_params : (retireBare s).params = s.params := rfl

@[simp] theorem itrIdle_dscr : (itrIdle s).dscr = { s.dscr with instrcompl := true } := rfl
@[simp] theorem itrIdle_dcc : (itrIdle s).dcc = s.dcc := rfl
@[simp] theorem itrIdle_cpu : (itrIdle s).cpu = s.cpu := rfl
@[simp] theorem itrIdle_pins : (itrIdle s).pins = s.pins := rfl
@[simp] theorem itrIdle_haltRequest : (itrIdle s).haltRequest = s.haltRequest := rfl
@[simp] theorem itrIdle_apbResult : (itrIdle s).apbResult = s.apbResult := rfl
@[simp] theorem itrIdle_stalledAccess : (itrIdle s).stalledAccess = s.stalledAccess := rfl
@[simp] theorem itrIdle_faults : (itrIdle s).faults = s.faults := rfl
@[simp] theorem itrIdle_agenda : (itrIdle s).agenda = s.agenda := rfl
@[simp] theorem itrIdle_draws : (itrIdle s).draws = s.draws := rfl
@[simp] theorem itrIdle_params : (itrIdle s).params = s.params := rfl

@[simp] theorem requestRestart_dscr : (requestRestart s).dscr = s.dscr := rfl
@[simp] theorem requestRestart_dcc : (requestRestart s).dcc = s.dcc := rfl
@[simp] theorem requestRestart_cpu : (requestRestart s).cpu = { s.cpu with dbg := .exiting } := rfl
@[simp] theorem requestRestart_pins : (requestRestart s).pins = s.pins := rfl
@[simp] theorem requestRestart_haltRequest : (requestRestart s).haltRequest = s.haltRequest := rfl
@[simp] theorem requestRestart_apbResult : (requestRestart s).apbResult = s.apbResult := rfl
@[simp] theorem requestRestart_stalledAccess : (requestRestart s).stalledAccess = s.stalledAccess := rfl
@[simp] theorem requestRestart_faults : (requestRestart s).faults = s.faults := rfl
@[simp] theorem requestRestart_agenda : (requestRestart s).agenda = s.agenda := rfl
@[simp] theorem requestRestart_draws : (requestRestart s).draws = s.draws := rfl
@[simp] theorem requestRestart_params : (requestRestart s).params = s.params := rfl

@[simp] theorem asyncAbortInDebug_dscr : (asyncAbortInDebug s).dscr = { s.dscr with adabortL := true } := rfl
@[simp] theorem asyncAbortInDebug_dcc : (asyncAbortInDebug s).dcc = s.dcc := rfl
@[simp] theorem asyncAbortInDebug_cpu : (asyncAbortInDebug s).cpu = s.cpu := rfl
@[simp] theorem asyncAbortInDebug_pins : (asyncAbortInDebug s).pins = s.pins := rfl
@[simp] theorem asyncAbortInDebug_haltRequest : (asyncAbortInDebug s).haltRequest = s.haltRequest := rfl
@[simp] theorem asyncAbortInDebug_apbResult : (asyncAbortInDebug s).apbResult = s.apbResult := rfl
@[simp] theorem asyncAbortInDebug_stalledAccess : (asyncAbortInDebug s).stalledAccess = s.stalledAccess := rfl
@[simp] theorem asyncAbortInDebug_faults : (asyncAbortInDebug s).faults = s.faults := rfl
@[simp] theorem asyncAbortInDebug_agenda : (asyncAbortInDebug s).agenda = s.agenda := rfl
@[simp] theorem asyncAbortInDebug_draws : (asyncAbortInDebug s).draws = s.draws := rfl
@[simp] theorem asyncAbortInDebug_params : (asyncAbortInDebug s).params = s.params := rfl

@[simp] theorem changeStatus_dscr (n : Bool) (m : Mode) : (changeStatus n m s).dscr = s.dscr := rfl
@[simp] theorem changeStatus_dcc (n : Bool) (m : Mode) : (changeStatus n m s).dcc = s.dcc := rfl
@[simp] theorem changeStatus_cpu (n : Bool) (m : Mode) :
    (changeStatus n m s).cpu = { s.cpu with nonsecure := n, mode := m } := rfl
@[simp] theorem changeStatus_pins (n : Bool) (m : Mode) : (changeStatus n m s).pins = s.pins := rfl
@[simp] theorem changeStatus_haltRequest (n : Bool) (m : Mode) :
    (changeStatus n m s).haltRequest = s.haltRequest := rfl
@[simp] theorem changeStatus_apbResult (n : Bool) (m : Mode) : (changeStatus n m s).apbResult = s.apbResult := rfl
@[simp] theorem changeStatus_stalledAccess (n : Bool) (m : Mode) :
    (changeStatus n m s).stalledAccess = s.stalledAccess := rfl
@[simp] theorem changeStatus_faults (n : Bool) (m : Mode) : (changeStatus n m s).faults = s.faults := rfl
@[simp] theorem changeStatus_agenda (n : Bool) (m : Mode) : (changeStatus n m s).agenda = s.agenda := rfl
@[simp] theorem changeStatus_draws (n : Bool) (m : Mode) : (changeStatus n m s).draws = s.draws := rfl
@[simp] theorem changeStatus_params (n : Bool) (m : Mode) : (changeStatus n m s).params = s.params := rfl

@[simp] theorem scheduleNext_dscr (a : Agent) : (scheduleNext a s).dscr = s.dscr := rfl
@[simp] theorem scheduleNext_dcc (a : Agent) : (scheduleNext a s).dcc = s.dcc := rfl
@[simp] theorem scheduleNext_cpu (a : Agent) : (scheduleNext a s).cpu = s.cpu := rfl
@[simp] theorem scheduleNext_pins (a : Agent) : (scheduleNext a s).pins = s.pins := rfl
@[simp] theorem scheduleNext_haltRequest (a : Agent) : (scheduleNext a s).haltRequest = s.haltRequest := rfl
@[simp] theorem scheduleNext_apbResult (a : Agent) : (scheduleNext a s).apbResult = s.apbResult := rfl
@[simp] theorem scheduleNext_stalledAccess (a : Agent) : (scheduleNext a s).stalledAccess = s.stalledAccess := rfl
@[simp] theorem scheduleNext_faults (a : Agent) : (scheduleNext a s).faults = s.faults := rfl
@[simp] theorem scheduleNext_agenda (a : Agent) :
    (scheduleNext a s).agenda = { s.agenda with schedule := a :: s.agenda.schedule } := rfl
@[simp] theorem scheduleNext_draws (a : Agent) : (scheduleNext a s).draws = s.draws := rfl
@[simp] theorem scheduleNext_params (a : Agent) : (scheduleNext a s).params = s.params := rfl

end Sys2Proof.Machine
end

