-- ==== Sys2Proof/Laws/Ops.lean ====
section
/-!
SUPPORT. For each shared operation one lemma that says once everything it can do; a proof cites it instead of unfolding
the operation.
-/

namespace Sys2Proof.Machine

/-! Computed bits do not see the fields an update leaves alone. -/

theorem itrBusy_eq_isSome (s : State) : itrBusy s = s.cpu.issued.isSome := rfl

theorem itrBusy_false_iff {s : State} : itrBusy s = false ↔ s.cpu.issued = none := by
  simp [itrBusy]

theorem inDebugState_iff {s : State} : inDebugState s = true ↔ s.cpu.dbg ≠ .normal := by
  simp [inDebugState]

/-! Outcomes. -/

@[simp] theorem mapNext_next (f : State → State) (s : State) : mapNext f (.next s) = .next (f s) := rfl
@[simp] theorem mapNext_fault (f : State → State) (r : Fault) : mapNext f (.fault r) = .fault r := rfl
@[simp] theorem mapNext_refused (f : State → State) (r : Refusal) : mapNext f (.refused r) = .refused r := rfl

/-- A mapped outcome is a next state exactly when the outcome is. -/
theorem mapNext_eq_next {f : State → State} {o : Outcome} {t : State} (h : mapNext f o = .next t) :
    ∃ u, o = .next u ∧ t = f u := by
  cases o with
  | next u => exact ⟨u, rfl, by simpa using h.symm⟩
  | fault r => simp at h
  | refused r => simp at h

/-! Retirement and exceptions. -/

/-- Retirement in one equation (R107): an instruction that was not issued has no issued word to drop. -/
theorem retire_eq (s : State) :
    retire s =
      { s with
        dscr := { s.dscr with pipeadv := true, instrcompl := s.dscr.instrcompl || itrBusy s }
        cpu :=
          { s.cpu with
            issued := none
            result := .completed
            pc := if itrBusy s then s.cpu.pc else s.cpu.pc + s.params.pcStep } } := by
  rcases h : s.cpu.issued with _ | w <;> simp [retire, itrBusy, itrDone, h]

/-- Taking an exception in one equation (R180, R185). -/
theorem takeException_eq (e : Exception) (s : State) :
    takeException e s =
      { s with
        cpu := { s.cpu with result := .trap e, pc := if inDebugState s then s.cpu.pc else drawnWord s 0 }
        draws := if inDebugState s then s.draws else s.draws + 1 } := by
  unfold takeException
  by_cases h : s.cpu.dbg = .normal <;> simp [inDebugState, jumpAnywhere, useDraws, drawnWord, h]

/-- The end of an issued instruction in one equation (R185, R151): without one, nothing changes. -/
theorem endIssued_eq (s : State) :
    endIssued s =
      { s with
        dscr := { s.dscr with instrcompl := s.dscr.instrcompl || itrBusy s }
        cpu := { s.cpu with issued := none } } := by
  rcases h : s.cpu.issued with _ | w
  · have hb : itrBusy s = false := itrBusy_false_iff.mpr h
    rw [endIssued, if_neg (by simp [hb]), hb, Bool.or_false, ← h]
  · have hb : itrBusy s = true := by simp [itrBusy, h]
    rw [endIssued, if_pos hb, hb, Bool.or_true]
    rfl

/-- `raise UndefinedInstruction` in one equation (R180, R107, R156, R151). -/
theorem raiseUndefined_eq (s : State) :
    raiseUndefined s =
      { s with
        dscr :=
          { s.dscr with
            pipeadv := s.dscr.pipeadv || drawnBit s 0
            undL := s.dscr.undL || inDebugState s
            instrcompl := s.dscr.instrcompl || itrBusy s }
        cpu :=
          { s.cpu with
            issued := none
            result := .trap .undefinedInstruction
            pc := if inDebugState s then s.cpu.pc else drawnWord s 1 }
        draws := if inDebugState s then s.draws + 1 else s.draws + 1 + 1 } := by
  unfold raiseUndefined
  simp only [takeException_eq, endIssued_eq]
  by_cases hd : s.cpu.dbg = .normal <;> simp [itrBusy, useDraws, inDebugState, drawnWord, hd]

/-- `UndefinedInDebugState` in one equation (R156, R151). -/
theorem undefinedInDebug_eq (s : State) :
    undefinedInDebug s =
      { s with
        dscr := { s.dscr with undL := true, instrcompl := s.dscr.instrcompl || itrBusy s }
        cpu := { s.cpu with issued := none } } := by
  rw [undefinedInDebug, endIssued_eq]
  rfl

/-- `SyncDataAbortInDebugState` in one equation (R157, R151). -/
theorem syncAbortInDebug_eq (s : State) :
    syncAbortInDebug s =
      { s with
        dscr := { s.dscr with sdabortL := true, instrcompl := s.dscr.instrcompl || itrBusy s }
        cpu := { s.cpu with issued := none } } := by
  rw [syncAbortInDebug, endIssued_eq]
  rfl

/-! The open predicates of R4. -/

@[simp] theorem holdsIn_haltingMode (s : State) : holdsIn s .haltingMode = haltingMode s := rfl

@[simp] theorem holdsIn_inDebugState (s : State) : holdsIn s .inDebugState = inDebugState s := by
  cases h : s.cpu.dbg <;> simp [holdsIn, Config.Condition.inDebugState, stateBit, inDebugState, h]

/-- Whatever the parameter, `may_halt` implies DBGEN HIGH (R153). -/
theorem mayHalt_dbgen {s : State} {c : Cause} (h : mayHalt s c = true) : s.pins.dbgen = true :=
  (Bool.and_eq_true_iff.mp h).1

/-! CP14 accesses. -/

/-- The permission check permits everything outside User mode (R100). -/
theorem cp14Check_of_ne_user {s : State} (r : Cp14Reg) (h : s.cpu.mode ≠ .user) : cp14Check s r = .permitted := by
  unfold cp14Check
  cases hm : s.cpu.mode <;> simp_all

/-- What a CP14 access can answer (R86, R100): it runs, it takes the Undefined instruction exception, or it is
refused. -/
theorem cp14Access_cases (r : Cp14Reg) (rd : BitVec 4) (k : State → Outcome) (s : State) :
    (rd ≠ 15#4 ∧ cp14Check s r = .permitted ∧ cp14Access r rd k s = k s) ∨
    (rd ≠ 15#4 ∧ cp14Check s r = .undefined ∧ cp14Access r rd k s = .next (raiseUndefined s)) ∨
    (rd ≠ 15#4 ∧ cp14Check s r = .refuse ∧ cp14Access r rd k s = .refused .userAccessToExtendedView) ∨
    (rd = 15#4 ∧ cp14Access r rd k s = .refused .rdIsPc) := by
  by_cases h : rd = 15#4
  · exact .inr (.inr (.inr ⟨h, by simp [cp14Access, h]⟩))
  · cases hc : cp14Check s r <;> simp [cp14Access, h, hc]

/-- If a CP14 access answers a next state, it ran or it took the exception. -/
theorem cp14Access_next {r : Cp14Reg} {rd : BitVec 4} {k : State → Outcome} {s t : State}
    (h : cp14Access r rd k s = .next t) :
    rd ≠ 15#4 ∧ ((cp14Check s r = .permitted ∧ k s = .next t) ∨ (cp14Check s r = .undefined ∧ t = raiseUndefined s)) := by
  rcases cp14Access_cases r rd k s with ⟨h1, h2, h3⟩ | ⟨h1, h2, h3⟩ | ⟨_, _, h3⟩ | ⟨_, h3⟩
  · exact ⟨h1, .inl ⟨h2, h3 ▸ h⟩⟩
  · rw [h3] at h
    exact ⟨h1, .inr ⟨h2, by simpa using h.symm⟩⟩
  · rw [h3] at h; cases h
  · rw [h3] at h; cases h

/-- What `write_dscr` can answer (R42). -/
theorem writeDscr_cases (v : Word) (s : State) :
    (s.params.sbzpPolicy = .refuse ∧ hasReservedOne v = true ∧ writeDscr v s = .error .sbzpViolation) ∨
    (¬(s.params.sbzpPolicy = .refuse ∧ hasReservedOne v = true) ∧ dataExtDccMode v = 0b11#2 ∧
      writeDscr v s = .error .reservedExtDccMode) ∨
    (¬(s.params.sbzpPolicy = .refuse ∧ hasReservedOne v = true) ∧ dataExtDccMode v ≠ 0b11#2 ∧
      writeDscr v s = .ok (checkItren { s with dscr := s.dscr.withControls v })) := by
  unfold writeDscr
  split
  · next h => exact .inl ⟨h.1, h.2, rfl⟩
  · next h =>
    split
    · next h2 => exact .inr (.inl ⟨h, h2, rfl⟩)
    · next h2 => exact .inr (.inr ⟨h, h2, rfl⟩)

/-- If `write_dscr` succeeds, the mode written is not b11 and only the eight control fields and the fault of R162
change. -/
theorem writeDscr_ok {v : Word} {s t : State} (h : writeDscr v s = .ok t) :
    dataExtDccMode v ≠ 0b11#2 ∧ t = checkItren { s with dscr := s.dscr.withControls v } := by
  rcases writeDscr_cases v s with ⟨_, _, h3⟩ | ⟨_, _, h3⟩ | ⟨_, h2, h3⟩
  · rw [h3] at h; cases h
  · rw [h3] at h; cases h
  · rw [h3] at h
    exact ⟨h2, by simpa using h.symm⟩

/-- A mode-governed row that answers a next state was selected by ExtDCCmode (R122, R136). -/
theorem inMode_next {m : DccMode} {s t : State} {o : Outcome} (h : inMode m s o = .next t) :
    s.dscr.extdccmode = m.code ∧ o = .next t := by
  unfold inMode at h
  split at h
  · next hm => exact ⟨hm, h⟩
  · split at h <;> cases h

@[simp] theorem inMode_selected {m : DccMode} {s : State} {o : Outcome} (h : s.dscr.extdccmode = m.code) :
    inMode m s o = o := by
  simp [inMode, h]

/-! Stall-mode accesses (R123): each waits, or completes with the effects of its rule. -/

theorem stallDtrrxWrite_next {v : Word} {s t : State} (h : stallDtrrxWrite v s = .next t) :
    (s.dscr.rxfull = true ∧ t = waitStalled (.dtrrxWrite v) s) ∨
    (s.dscr.rxfull = false ∧ t = answer (.ok none) (storeDtrrx v s)) := by
  unfold stallDtrrxWrite at h
  cases hr : s.dscr.rxfull <;> simp [hr] at h <;> simp [h]

theorem stallDtrtxRead_next {s t : State} (h : stallDtrtxRead s = .next t) :
    (s.dscr.txfull = false ∧ t = waitStalled .dtrtxRead s) ∨
    (s.dscr.txfull = true ∧ t = answer (.ok (some s.dcc.dtrtx)) (takeDtrtx s)) := by
  unfold stallDtrtxRead at h
  cases hr : s.dscr.txfull <;> simp [hr] at h <;> simp [h]

/-- A Nonblocking read of DBGDTRTXext never waits: it is ignored, or it succeeds and clears both flags (R127). -/
theorem nonblockingDtrtxRead_next {s t : State} (h : nonblockingDtrtxRead s = .next t) :
    (s.dscr.txfullL = false ∧ t = answer (.ignored (some (drawnWord s 0))) (useDraws 1 s)) ∨
    (s.dscr.txfullL = true ∧ s.dscr.txfull = true ∧ t = answer (.ok (some s.dcc.dtrtx)) (takeDtrtx s)) ∨
    (s.dscr.txfullL = true ∧ s.dscr.txfull = false ∧
      t = answer (.ok (some (drawnWord s 0))) (takeDtrtx (useDraws 1 s))) := by
  unfold nonblockingDtrtxRead dtrtxData at h
  cases hl : s.dscr.txfullL <;> cases hf : s.dscr.txfull <;> simp [hl, hf] at h <;> simp [h]

/-- What a reset of the register does to the stalled access (R128): it ends the stall of a read, and nothing else. -/
theorem map_afterReset_eq (o : Option StalledAccess) :
    o.map StalledAccess.afterReset = if o = some .dtrtxRead then some .dtrtxReadEnded else o := by
  rcases o with _ | (v | _ | _ | v) <;> rfl

theorem stallItrWrite_next {v : Word} {s t : State} (h : stallItrWrite v s = .next t) :
    (s.dscr.sdabortL = true ∧ t = answer (.ignored none) s) ∨
    (s.dscr.sdabortL = false ∧ s.dscr.instrcompl = false ∧ t = waitStalled (.itrWrite v) s) ∨
    (s.dscr.sdabortL = false ∧ s.dscr.instrcompl = true ∧ s.dscr.itren = true ∧
      t = answer (.ok none) (issue v (clearInstrCompl (storeItr v s)))) := by
  unfold stallItrWrite at h
  cases ha : s.dscr.sdabortL <;> cases hc : s.dscr.instrcompl <;> cases hi : s.dscr.itren <;>
    simp [ha, hc, hi] at h <;> simp [h]

/-! Decoding of accesses. -/

/-- The mode an ExtDCCmode value selects is the one whose code it is (R21, R122). -/
theorem dccModeOf_eq_some {m : BitVec 2} {d : DccMode} : dccModeOf m = some d ↔ m = d.code := by
  revert m; cases d <;> decide

/-- A mode-governed row is decoded only under its own mode (R84, R122). -/
theorem decodeOffset_dccMode {p : Config.Params} {m : BitVec 2} {dir : Direction} {off : Nat} {v : Word} {i : Instr}
    (h : decodeOffset p m dir off v = .ok i) {d : DccMode} (hd : i.dccMode = some d) : m = d.code := by
  rw [← dccModeOf_eq_some]
  unfold decodeOffset dtrrxWriteIn itrWriteIn dtrtxReadIn at h
  (repeat' split at h) <;> cases h <;> simp_all [Instr.dccMode]

/-- What the decoder of accesses needs to answer an instruction (R61 to R63). -/
theorem decodeAccess_ok {p : Config.Params} {m : BitVec 2} {a : Access} {i : Instr} (h : decodeAccess p m a = .ok i) :
    a.size = .word ∧ p.dbgBase ≤ a.addr ∧ (a.addr - p.dbgBase) % 4 = 0 ∧
      decodeOffset p m a.dir (a.addr - p.dbgBase) a.data = .ok i := by
  unfold decodeAccess at h
  split at h
  · cases h
  · next h1 =>
    split at h
    · cases h
    · next h2 =>
      split at h
      · cases h
      · next h3 => exact ⟨not_not.mp h1, Nat.not_lt.mp h2, not_not.mp h3, h⟩

/-! Turns. -/

/-- What the processor fetches (R134, R153 b). -/
theorem fetchWord_cases (s : State) :
    (∃ w, s.cpu.issued = some w ∧ fetchWord s = some (w, s)) ∨
    (s.cpu.issued = none ∧ s.cpu.dbg = .normal ∧ ∃ w ws, s.agenda.program = w :: ws ∧
      fetchWord s = some (w, { s with agenda := { s.agenda with program := ws } })) ∨
    (s.cpu.issued = none ∧ fetchWord s = none) := by
  unfold fetchWord
  rcases h : s.cpu.issued with _ | w
  · by_cases hd : s.cpu.dbg = .normal
    · rcases hp : s.agenda.program with _ | ⟨w, ws⟩ <;> simp [inDebugState, hd]
    · simp [inDebugState, hd]
  · simp

/-- A processor turn that answers a next state ran the instruction its word decodes to. -/
theorem processorTurn_next {s t : State} (h : processorTurn s = .next t) :
    ∃ w u i v, fetchWord s = some (w, u) ∧ decodeWord u.params w = .ok i ∧ exec i u = .next v ∧ t = checkItren v := by
  unfold processorTurn at h
  rcases hf : fetchWord s with _ | ⟨w, u⟩
  · simp [hf] at h
  · rcases hd : decodeWord u.params w with e | i
    · simp [hf, hd] at h
    · simp only [hf, hd] at h
      obtain ⟨v, hv, rfl⟩ := mapNext_eq_next h
      exact ⟨w, u, i, v, rfl, hd, hv, rfl⟩

/-- A debugger turn that answers a next state tried its stalled access again, or ran the row its next access decodes
to. -/
theorem debuggerTurn_next {s t : State} (h : debuggerTurn s = .next t) :
    (∃ p u, s.stalledAccess = some p ∧ retryStalled p { s with stalledAccess := none } = .next u ∧ t = checkItren u) ∨
    (∃ a rest i u, s.stalledAccess = none ∧ s.agenda.accesses = a :: rest ∧
      decodeAccess s.params s.dscr.extdccmode a = .ok i ∧
      exec i { s with agenda := { s.agenda with accesses := rest } } = .next u ∧ t = checkItren u) := by
  unfold debuggerTurn at h
  rcases hp : s.stalledAccess with _ | p
  · rcases ha : s.agenda.accesses with _ | ⟨a, rest⟩
    · simp [hp, ha] at h
    · rcases hd : decodeAccess s.params s.dscr.extdccmode a with e | i
      · simp [hp, ha, hd] at h
      · simp only [hp, ha, hd] at h
        obtain ⟨u, hu, rfl⟩ := mapNext_eq_next h
        exact .inr ⟨a, rest, i, u, rfl, rfl, hd, hu, rfl⟩
  · simp only [hp] at h
    obtain ⟨u, hu, rfl⟩ := mapNext_eq_next h
    exact .inl ⟨p, u, rfl, hu, rfl⟩

/-- A hardware turn that answers a next state delivered an enabled event. -/
theorem hardwareTurn_next {s t : State} (h : hardwareTurn s = .next t) :
    ∃ e rest u, s.agenda.events = e :: rest ∧
      enabled e { s with agenda := { s.agenda with events := rest } } = true ∧
      happen e { s with agenda := { s.agenda with events := rest } } = .next u ∧ t = checkItren u := by
  unfold hardwareTurn at h
  rcases he : s.agenda.events with _ | ⟨e, rest⟩
  · simp [he] at h
  · simp only [he] at h
    obtain ⟨u, hu, rfl⟩ := mapNext_eq_next h
    unfold applyEvent at hu
    split at hu
    · next hen => exact ⟨e, rest, u, rfl, hen, hu, rfl⟩
    · cases hu

/-- A step that answers a next state is one turn of the agent scheduled first. -/
theorem step_next {s t : State} (h : step s = .next t) :
    ∃ a rest, s.agenda.schedule = a :: rest ∧
      turn a { s with agenda := { s.agenda with schedule := rest } } = .next t := by
  unfold step at h
  rcases hs : s.agenda.schedule with _ | ⟨a, rest⟩
  · simp [hs] at h
  · exact ⟨a, rest, rfl, by simpa [hs] using h⟩

/-- Running one step more. -/
theorem core_run_succ {k : Nat} {s t : State} (h : step s = .next t) :
    Sys2Proof.core.run (k + 1) s = Sys2Proof.core.run k t := by
  have h' : Sys2Proof.core.step s = .next t := h
  simp only [Host.Core.run, h']

end Sys2Proof.Machine
end

