-- ==== Sys2Proof/Tests/Slice0.lean ====
section
/-!
SUPPORT. Tests on small concrete states. Expected values come from spec/95_test_vectors.md (the vector's name stands in
each comment) or are written out from the bit layout of 30_encoding.md rule R82. The theorems named `test_witness_…` meet
the hypotheses of the statement they name.
-/

namespace Sys2Proof.Tests

open Sys2Proof.Machine

/-! Helpers. -/

/-- Whether an outcome is a next state with this property. -/
def shows (o : Outcome) (p : State → Bool) : Bool :=
  match o with
  | .next s => p s
  | .fault _ => false
  | .refused _ => false

/-- Whether an outcome is this refusal. -/
def refuses (o : Outcome) (r : Refusal) : Bool :=
  match o with
  | .next _ => false
  | .fault _ => false
  | .refused q => decide (q = r)

/-- Whether an outcome is this fault. -/
def faults (o : Outcome) (r : Fault) : Bool :=
  match o with
  | .next _ => false
  | .fault q => decide (q = r)
  | .refused _ => false

/-- The reset state with other stored fields. -/
def withDscr (f : Dscr → Dscr) : State := { State.reset with dscr := f State.reset.dscr }

/-- The reset state in User mode, with bit [12] as given. -/
def userState (udccdis : Bool) : State :=
  { withDscr (fun d => { d with udccdis := udccdis }) with cpu := { State.reset.cpu with mode := .user } }

/-- A halted processor with bit [13] set and nothing executing, in an access mode (vectors RV14, AP17, AP30). -/
def haltedIn (mode : BitVec 2) : State :=
  { withDscr (fun d =>
      { d with extdccmode := mode, hdbgen := true, itren := true, instrcompl := true, instrcomplL := true }) with
    cpu := { State.reset.cpu with dbg := .halted } }

/-- Other stored fields in any state. -/
def also (f : Dscr → Dscr) (s : State) : State := { s with dscr := f s.dscr }

/-- A register holds a value. -/
def withReg (rd : BitVec 4) (v : Word) : State := writeReg rd v State.reset

/-- The debugger has this access stalled, and the next turn. -/
def holding (p : StalledAccess) (s : State) : State :=
  { s with stalledAccess := some p, agenda := { s.agenda with schedule := [.debugger] } }

/-- Queues of the agents. -/
def queued (schedule : List Agent) (program : List Word) (accesses : List Access) (events : List Event)
    (s : State) : State :=
  { s with agenda := { schedule := schedule, program := program, accesses := accesses, events := events } }

/-- An aligned word write. -/
def writeOf (addr : Nat) (v : Word) : Access := { dir := .write, size := .word, addr := addr, data := v }

/-- An aligned word read. -/
def readOf (addr : Nat) : Access := { dir := .read, size := .word, addr := addr, data := 0#32 }

/-! Well-formedness refuses an ill-formed term, one for each check. -/

theorem test_wf_mrcDbgdscrint_rd15 : (Instr.mrcDbgdscrint 15#4).wf = false := by decide
theorem test_wf_mrcDbgdscrext_rd15 : (Instr.mrcDbgdscrext 15#4).wf = false := by decide
theorem test_wf_mcrDbgdscrext_rd15 : (Instr.mcrDbgdscrext 15#4).wf = false := by decide
theorem test_wf_mrcDbgdtrrxint_rd15 : (Instr.mrcDbgdtrrxint 15#4).wf = false := by decide
theorem test_wf_mcrDbgdtrtxint_rd15 : (Instr.mcrDbgdtrtxint 15#4).wf = false := by decide
theorem test_wf_access_narrow :
    Access.wf 0 { dir := .read, size := .byte, addr := 0x88, data := 0#32 } = false := by decide
theorem test_wf_access_misaligned : Access.wf 0 (readOf 0x8A) = false := by decide
theorem test_wf_access_below_base : Access.wf 0x1000 (readOf 0x88) = false := by decide
theorem test_wf_access_aligned_word : Access.wf 0x1000 (readOf 0x1088) = true := by decide
theorem test_wf_params_shared_offset :
    Config.Params.wf { Config.Params.defaults with offItr := 0x88 } = false := by decide
theorem test_wf_params_misaligned_offset :
    Config.Params.wf { Config.Params.defaults with offDtrrx := 0x82 } = false := by decide
theorem test_wf_params_defaults : Config.Params.wf Config.Params.defaults = true := by decide
theorem test_encodable_needs_dtr_parameter :
    Instr.encodable Config.Params.defaults 0#2 (.mrcDbgdtrrxint 1#4) = false := by decide
theorem test_encodable_needs_mode :
    Instr.encodable Config.Params.defaults 1#2 (.apbWrDbgitrFast 0#32) = false := by decide

/-! Decoding, each word written out from the layout of R82 (95_test_vectors.md section 5). -/

/-- cond 1110, 1110, opc1 000, L 1, CRn 0000, Rd 1100, coproc 1110, opc2 000, 1, CRm 0001. -/
theorem test_decode_mrcDbgdscrint :
    decodeWord Config.Params.defaults 0b1110_1110_000_1_0000_1100_1110_000_1_0001#32 = .ok (.mrcDbgdscrint 12#4) := by
  decide
/-- opc2 010, CRm 0010. -/
theorem test_decode_mrcDbgdscrext :
    decodeWord Config.Params.defaults 0b1110_1110_000_1_0000_0001_1110_010_1_0010#32 = .ok (.mrcDbgdscrext 1#4) := by
  decide
/-- L 0. -/
theorem test_decode_mcrDbgdscrext :
    decodeWord Config.Params.defaults 0b1110_1110_000_0_0000_0111_1110_010_1_0010#32 = .ok (.mcrDbgdscrext 7#4) := by
  decide
/-- The refused form takes every `Rd`, 15 among them (R85). -/
theorem test_decode_mcrDbgdscrintRefused :
    decodeWord Config.Params.defaults 0b1110_1110_000_0_0000_1111_1110_000_1_0001#32 =
      .ok (.mcrDbgdscrintRefused 15#4) := by decide
theorem test_decode_mrcDbgdtrrxint :
    decodeWord tableParams 0b1110_1110_000_1_0000_0001_1110_000_1_0101#32 = .ok (.mrcDbgdtrrxint 1#4) := by decide
theorem test_decode_mcrDbgdtrtxint :
    decodeWord tableParams 0b1110_1110_000_0_0000_0010_1110_000_1_0101#32 = .ok (.mcrDbgdtrtxint 2#4) := by decide
/-- Section 5: the words that are no operation of the spec. -/
theorem test_decode_not_in_scope :
    [0xEE100E12#32, 0xEE100E31#32, 0xEE100F11#32, 0xEE300E11#32, 0xEE110E11#32, 0xEE100E01#32, 0xEE100E15#32,
      0xEE000E15#32, 0x0E100E11#32, 0#32].all
      (fun w => decide (decodeWord Config.Params.defaults w = .error .notInScope)) = true := by decide
theorem test_decode_rd15 : decodeWord Config.Params.defaults 0xEE10FE11#32 = .error .rdIsPc := by decide

theorem test_decode_apbRdDbgdscrext :
    decodeAccess Config.Params.defaults 0#2 (readOf 0x88) = .ok .apbRdDbgdscrext := by decide
theorem test_decode_apbWrDbgdscrext :
    decodeAccess Config.Params.defaults 0#2 (writeOf 0x88 7#32) = .ok (.apbWrDbgdscrext 7#32) := by decide
theorem test_decode_dtrrx_by_mode :
    decodeAccess Config.Params.defaults 0b00#2 (writeOf 0x80 7#32) = .ok (.apbWrDbgdtrrxextNonblocking 7#32) ∧
    decodeAccess Config.Params.defaults 0b01#2 (writeOf 0x80 7#32) = .ok (.apbWrDbgdtrrxextStall 7#32) ∧
    decodeAccess Config.Params.defaults 0b10#2 (writeOf 0x80 7#32) = .ok (.apbWrDbgdtrrxextFast 7#32) ∧
    decodeAccess Config.Params.defaults 0b11#2 (writeOf 0x80 7#32) = .error .reservedExtDccMode := by decide
theorem test_decode_dtrtx_by_mode :
    decodeAccess Config.Params.defaults 0b00#2 (readOf 0x8C) = .ok .apbRdDbgdtrtxextNonblocking ∧
    decodeAccess Config.Params.defaults 0b01#2 (readOf 0x8C) = .ok .apbRdDbgdtrtxextStall ∧
    decodeAccess Config.Params.defaults 0b10#2 (readOf 0x8C) = .ok .apbRdDbgdtrtxextFast ∧
    decodeAccess Config.Params.defaults 0b11#2 (readOf 0x8C) = .error .reservedExtDccMode := by decide
theorem test_decode_itr_by_mode :
    decodeAccess Config.Params.defaults 0b00#2 (writeOf 0x84 7#32) = .ok (.apbWrDbgitrNonblocking 7#32) ∧
    decodeAccess Config.Params.defaults 0b01#2 (writeOf 0x84 7#32) = .ok (.apbWrDbgitrStall 7#32) ∧
    decodeAccess Config.Params.defaults 0b10#2 (writeOf 0x84 7#32) = .ok (.apbWrDbgitrFast 7#32) ∧
    decodeAccess Config.Params.defaults 0b11#2 (writeOf 0x84 7#32) = .error .reservedExtDccMode := by decide
theorem test_decode_apbWrDbgdrcr :
    decodeAccess Config.Params.defaults 0#2 (writeOf 0x90 1#32) = .ok (.apbWrDbgdrcr 1#32) := by decide
/-- AP4, AP5. -/
theorem test_decode_access_rejections :
    decodeAccess Config.Params.defaults 0#2 { dir := .read, size := .byte, addr := 0x88, data := 0#32 } =
      .error .unsupportedApbAccess ∧
    decodeAccess Config.Params.defaults 0#2 (readOf 0x8A) = .error .unsupportedApbAccess ∧
    decodeAccess Config.Params.defaults 0#2 (readOf 0x80) = .error .notInScope ∧
    decodeAccess Config.Params.defaults 0#2 (writeOf 0x8C 0#32) = .error .notInScope := by decide
/-- The address is relative to `DBG_BASE` (R61). -/
theorem test_decode_access_with_base :
    decodeAccess { Config.Params.defaults with dbgBase := 0x1000 } 0#2 (readOf 0x1088) = .ok .apbRdDbgdscrext ∧
    decodeAccess { Config.Params.defaults with dbgBase := 0x1000 } 0#2 (readOf 0x88) = .error .notInScope := by decide
/-- S6: an assembler line. -/
theorem test_assembly_line : assemblyOf mrcDscrExtTuple 1#4 = "MRC p14, 0, r1, c0, c2, 2" := by decide
/-- The table's numbering: a CP14 row by its word, an APB row by its offset. -/
theorem test_table_words :
    decodeTableWord 32 0xEE101E11 = some (.mrcDbgdscrint 1#4) ∧ decodeTableWord 16 0x090 = some (.apbWrDbgdrcr 0#32) ∧
    decodeTableWord 16 0x088 = some .apbRdDbgdscrext ∧ decodeTableWord 32 0 = none := by decide

/-! Read views: the words of section 2 with the drawn bits supplied. -/

/-- RV1, RV2, RV3: what a read returns after reset, by the signals. -/
theorem test_view_reset :
    viewExtApb State.reset false = 0x00000002#32 ∧
    viewExtApb { State.reset with pins := ⟨false, false, false, false⟩ } false = 0x00030002#32 ∧
    viewExtApb { State.reset with pins := ⟨false, true, true, true⟩ } false = 0x00010002#32 := by decide
/-- RV15, three views. -/
theorem test_view_halted_txfull :
    viewExtApb (also (fun d => { d with txfull := true }) (haltedIn 0#2)) false = 0x25086003#32 ∧
    viewExtCp14 (also (fun d => { d with txfull := true }) (haltedIn 0#2)) false = 0x24086003#32 ∧
    viewInt (also (fun d => { d with txfull := true }) (haltedIn 0#2)) false false false = 0x20086003#32 := by decide
/-- RV16: exiting. -/
theorem test_view_exiting :
    viewExtCp14
      { withDscr (fun d => { d with hdbgen := true, instrcompl := true }) with
        cpu := { State.reset.cpu with dbg := .exiting } } false = 0x00084001#32 := by decide
/-- RV21, RV22: bits [15] and [14] are masked by DBGEN. -/
theorem test_view_debug_modes :
    viewExtApb { withDscr (fun d => { d with mdbgen := true, hdbgen := true }) with pins := ⟨false, true, true, true⟩ }
      false = 0x00010002#32 ∧
    viewExtApb (withDscr (fun d => { d with mdbgen := true, hdbgen := true })) false = 0x0000C002#32 := by decide
/-- RV23, RV24: bit [18]. -/
theorem test_view_nonsecure :
    viewExtApb { State.reset with cpu := { State.reset.cpu with nonsecure := true } } false = 0x00040002#32 ∧
    viewExtApb { State.reset with cpu := { State.reset.cpu with nonsecure := true, mode := .monitor } } false =
      0x00000002#32 := by decide

/-! Processor-side accesses. -/

/-- CP1: the register gets the internal view with three drawn bits. -/
theorem test_mrcDbgdscrint_value :
    ∃ a b c, exec (.mrcDbgdscrint 0#4) State.reset =
      .next (retire (useDraws 3 (writeReg 0#4 (viewInt State.reset a b c) State.reset))) := ⟨_, _, _, rfl⟩
/-- CP1: pc + 4, bit [25] set. -/
theorem test_mrcDbgdscrint_retires :
    shows (exec (.mrcDbgdscrint 0#4) State.reset) (fun t => t.dscr.pipeadv && decide (t.cpu.pc = 4#32)) = true := by
  decide
/-- CP3: the CP14 read copies no latch by default. -/
theorem test_mrcDbgdscrext_keeps_latches :
    shows (exec (.mrcDbgdscrext 1#4) (withDscr (fun d => { d with rxfull := true }))) (fun t => !t.dscr.rxfullL) = true := by
  decide
/-- CP4: it does under `CP14_EXT_READ_LATCHES`. -/
theorem test_mrcDbgdscrext_latches :
    shows (exec (.mrcDbgdscrext 1#4)
      { withDscr (fun d => { d with rxfull := true }) with
        params := { Config.Params.defaults with cp14ExtReadLatches := true } }) (fun t => t.dscr.rxfullL) = true := by
  decide
/-- CP5. -/
theorem test_mcrDbgdscrext_writes :
    shows (exec (.mcrDbgdscrext 2#4) (withReg 2#4 0x8000#32))
      (fun t => t.dscr.mdbgen && t.dscr.pipeadv && !t.dscr.hdbgen && decide (t.cpu.pc = 4#32)) = true := by decide
/-- WR6, WR12. -/
theorem test_mcrDbgdscrext_refuses :
    refuses (exec (.mcrDbgdscrext 2#4) (withReg 2#4 0x300000#32)) .reservedExtDccMode = true ∧
    refuses (exec (.mcrDbgdscrext 2#4) (withReg 2#4 0x200#32)) .sbzpViolation = true := by decide
/-- CP16, both policies. -/
theorem test_mcrDbgdscrintRefused_by_policy :
    refuses (exec (.mcrDbgdscrintRefused 0#4) State.reset) .readOnlyView = true ∧
    shows (exec (.mcrDbgdscrintRefused 0#4)
      { State.reset with params := { Config.Params.defaults with roMcrPolicy := .undefinedException } })
      (fun t => decide (t.cpu.result = .trap .undefinedInstruction)) = true := by decide
/-- CP10. -/
theorem test_mrcDbgdtrrxint_takes_data :
    shows (exec (.mrcDbgdtrrxint 4#4)
      { withDscr (fun d => { d with rxfull := true, rxfullL := true }) with
        dcc := { dtrrx := 0x12345678#32, dtrtx := 0#32, itr := 0#32 } })
      (fun t => decide (readReg t 4#4 = 0x12345678#32) && !t.dscr.rxfull && t.dscr.rxfullL) = true := by decide
/-- CP11: no fault on an empty register. -/
theorem test_mrcDbgdtrrxint_empty :
    shows (exec (.mrcDbgdtrrxint 4#4) State.reset) (fun t => faultFree t && !t.dscr.rxfull) = true := by decide
/-- CP12. -/
theorem test_mcrDbgdtrtxint_gives_data :
    shows (exec (.mcrDbgdtrtxint 5#4) (withReg 5#4 0xCAFEF00D#32))
      (fun t => decide (t.dcc.dtrtx = 0xCAFEF00D#32) && t.dscr.txfull && !t.dscr.txfullL) = true := by decide
/-- CP13. -/
theorem test_mcrDbgdtrtxint_full :
    shows (exec (.mcrDbgdtrtxint 5#4) (withDscr (fun d => { d with txfull := true })))
      (fun t => t.faults.dtrTxWriteWhileFull) = true := by decide
/-- CP8, CP15. -/
theorem test_cp14_refusals :
    refuses (exec (.mrcDbgdscrext 0#4) (userState false)) .userAccessToExtendedView = true ∧
    refuses (exec (.mrcDbgdscrint 15#4) State.reset) .rdIsPc = true := by decide
/-- CP14: an issued access that traps in debug state. -/
theorem test_cp14_trap_in_debug_state :
    shows (exec (.mrcDbgdscrint 0#4)
      (issue 0xEE100E11#32 (also (fun d => { d with udccdis := true, instrcompl := false })
        { haltedIn 0#2 with cpu := { (haltedIn 0#2).cpu with mode := .user } })))
      (fun t => t.dscr.undL && t.dscr.instrcompl && !itrBusy t && decide (t.cpu.pc = 0#32)
        && decide (readReg t 0#4 = 0#32)) = true := by decide

/-! Debugger-side accesses. -/

/-- AP2: the word and the latches. -/
theorem test_apbRdDbgdscrext_halted :
    shows (exec .apbRdDbgdscrext (also (fun d => { d with txfull := true, instrcomplL := false }) (haltedIn 0#2)))
      (fun t => decide (t.apbResult = some (.ok (some 0x25086003#32))) && t.dscr.txfullL && t.dscr.instrcomplL
        && !t.dscr.rxfullL) = true := by decide
/-- AP3. -/
theorem test_apbWrDbgdscrext_writes :
    shows (exec (.apbWrDbgdscrext 0x104000#32) State.reset)
      (fun t => t.dscr.hdbgen && decide (t.dscr.extdccmode = 1#2)) = true := by decide
/-- WR14. -/
theorem test_apbWrDbgdscrext_itren_fault :
    shows (exec (.apbWrDbgdscrext 0x2000#32) State.reset)
      (fun t => t.dscr.itren && t.faults.itrenOutsideDebugState) = true := by decide
/-- AP10. -/
theorem test_apbWrDbgdtrrxextNonblocking_ok :
    shows (exec (.apbWrDbgdtrrxextNonblocking 0x12345678#32) State.reset)
      (fun t => decide (t.dcc.dtrrx = 0x12345678#32) && t.dscr.rxfull && t.dscr.rxfullL) = true := by decide
/-- AP12. -/
theorem test_apbWrDbgdtrrxextNonblocking_ignored :
    shows (exec (.apbWrDbgdtrrxextNonblocking 9#32) (withDscr (fun d => { d with rxfullL := true })))
      (fun t => decide (t.apbResult = some (.ignored none)) && decide (t.dcc.dtrrx = 0#32)) = true := by decide
/-- AP16. -/
theorem test_apbWrDbgdtrrxextStall_ok :
    shows (exec (.apbWrDbgdtrrxextStall 9#32) (withDscr (fun d => { d with extdccmode := 1#2, rxfullL := true })))
      (fun t => decide (t.apbResult = some (.ok none)) && decide (t.dcc.dtrrx = 9#32)) = true := by decide
/-- AP15. -/
theorem test_apbWrDbgdtrrxextStall_stalled :
    shows (exec (.apbWrDbgdtrrxextStall 9#32) (withDscr (fun d => { d with extdccmode := 1#2, rxfull := true })))
      (fun t => decide (t.apbResult = some .stalled) && decide (t.dcc.dtrrx = 0#32)) = true := by decide
/-- AP17. -/
theorem test_apbWrDbgdtrrxextFast_issues :
    shows (exec (.apbWrDbgdtrrxextFast 0xAAAA5555#32)
      { haltedIn 2#2 with dcc := { dtrrx := 0#32, dtrtx := 0#32, itr := 0xEE100E15#32 } })
      (fun t => decide (t.cpu.issued = some 0xEE100E15#32) && t.dscr.rxfull && t.dscr.rxfullL && !t.dscr.instrcompl
        && !t.dscr.instrcomplL) = true := by decide
/-- AP18, AP19. -/
theorem test_apbWrDbgdtrrxextFast_gates :
    shows (exec (.apbWrDbgdtrrxextFast 0#32) (also (fun d => { d with sdabortL := true }) (haltedIn 2#2)))
      (fun t => decide (t.apbResult = some (.ignored none)) && !itrBusy t) = true ∧
    refuses (exec (.apbWrDbgdtrrxextFast 0#32) (also (fun d => { d with rxfull := true }) (haltedIn 2#2)))
      .fastModeNotReady = true := by decide
/-- AP20. -/
theorem test_apbRdDbgdtrtxextNonblocking_ok :
    shows (exec .apbRdDbgdtrtxextNonblocking
      { withDscr (fun d => { d with txfull := true, txfullL := true }) with
        dcc := { dtrrx := 0#32, dtrtx := 0xCAFEF00D#32, itr := 0#32 } })
      (fun t => decide (t.apbResult = some (.ok (some 0xCAFEF00D#32))) && !t.dscr.txfull && !t.dscr.txfullL) = true := by
  decide
/-- AP22: data is not lost. -/
theorem test_apbRdDbgdtrtxextNonblocking_ignored :
    shows (exec .apbRdDbgdtrtxextNonblocking (withDscr (fun d => { d with txfull := true }))) (fun t => t.dscr.txfull) =
      true := by decide
/-- AP24. -/
theorem test_apbRdDbgdtrtxextStall :
    shows (exec .apbRdDbgdtrtxextStall (withDscr (fun d => { d with extdccmode := 1#2 })))
      (fun t => decide (t.apbResult = some .stalled)) = true ∧
    shows (exec .apbRdDbgdtrtxextStall
      { withDscr (fun d => { d with extdccmode := 1#2, txfull := true }) with
        dcc := { dtrrx := 0#32, dtrtx := 0x55#32, itr := 0#32 } })
      (fun t => decide (t.apbResult = some (.ok (some 0x55#32))) && !t.dscr.txfull) = true := by decide
/-- AP25. -/
theorem test_apbRdDbgdtrtxextFast_issues :
    shows (exec .apbRdDbgdtrtxextFast
      (also (fun d => { d with txfull := true, txfullL := true })
        { haltedIn 2#2 with dcc := { dtrrx := 0#32, dtrtx := 5#32, itr := 0xEE000E15#32 } }))
      (fun t => decide (t.apbResult = some (.ok (some 5#32))) && decide (t.cpu.issued = some 0xEE000E15#32)
        && !t.dscr.txfull && !t.dscr.txfullL && !t.dscr.instrcompl) = true := by decide
/-- AP27. -/
theorem test_apbRdDbgdtrtxextFast_not_ready :
    refuses (exec .apbRdDbgdtrtxextFast (haltedIn 2#2)) .fastModeNotReady = true := by decide
/-- AP30. -/
theorem test_apbWrDbgitrNonblocking_issues :
    shows (exec (.apbWrDbgitrNonblocking 0xEE100E11#32) (haltedIn 0#2))
      (fun t => decide (t.dcc.itr = 0xEE100E11#32) && decide (t.cpu.issued = some 0xEE100E11#32) && !t.dscr.instrcompl
        && !t.dscr.instrcomplL) = true := by decide
/-- AP32, AP35. -/
theorem test_apbWrDbgitrNonblocking_gates :
    shows (exec (.apbWrDbgitrNonblocking 1#32) (also (fun d => { d with instrcomplL := false }) (haltedIn 0#2)))
      (fun t => decide (t.apbResult = some (.ignored none)) && !itrBusy t) = true ∧
    refuses (exec (.apbWrDbgitrNonblocking 1#32) (also (fun d => { d with itren := false }) (haltedIn 0#2)))
      .itrWriteWithItrenClear = true := by decide
/-- AP36. -/
theorem test_apbWrDbgitrStall_stalled :
    shows (exec (.apbWrDbgitrStall 1#32) (issue 2#32 (also (fun d => { d with instrcompl := false }) (haltedIn 1#2))))
      (fun t => decide (t.apbResult = some .stalled) && decide (t.cpu.issued = some 2#32)) = true := by decide
/-- R131: ready. -/
theorem test_apbWrDbgitrStall_issues :
    shows (exec (.apbWrDbgitrStall 1#32) (haltedIn 1#2))
      (fun t => decide (t.cpu.issued = some 1#32) && !t.dscr.instrcompl) = true := by decide
/-- AP38. -/
theorem test_apbWrDbgitrFast_stores_only :
    shows (exec (.apbWrDbgitrFast 1#32) (haltedIn 2#2))
      (fun t => decide (t.dcc.itr = 1#32) && !itrBusy t && t.dscr.instrcompl && t.dscr.instrcomplL) = true := by decide
/-- AP43. -/
theorem test_apbWrDbgdrcr_clears :
    shows (exec (.apbWrDbgdrcr 0xC#32) (withDscr (fun d => { d with undL := true, pipeadv := true })))
      (fun t => !t.dscr.undL && !t.dscr.pipeadv && !t.haltRequest) = true := by decide
/-- AP44. -/
theorem test_apbWrDbgdrcr_requests_halt :
    shows (exec (.apbWrDbgdrcr 1#32) State.reset)
      (fun t => t.haltRequest && shows (applyEvent (.enterDebugState .haltRequest) t)
        (fun u => decide (u.cpu.dbg = .halted) && decide (u.dscr.moe = 0#4) && !u.haltRequest)) = true := by decide

/-! Events. -/

/-- HW4, HW5. -/
theorem test_enter_by_breakpoint :
    shows (applyEvent (.enterDebugState .breakpoint) (withDscr (fun d => { d with hdbgen := true })))
      (fun t => decide (viewExtApb t false = 0x00084007#32)) = true ∧
    faults (applyEvent (.enterDebugState .breakpoint) State.reset) (.notEnabled (.enterDebugState .breakpoint)) = true := by
  decide
/-- HW10. -/
theorem test_exit_with_itren :
    shows (applyEvent .exitDebugState
      { haltedIn 0#2 with cpu := { (haltedIn 0#2).cpu with dbg := .exiting } })
      (fun t => decide (t.cpu.dbg = .normal) && t.faults.itrenOutsideDebugState) = true := by decide
/-- HW11, HW12: the issued instruction is over in the same step. -/
theorem test_debug_state_exceptions_end_issued :
    shows (applyEvent .undefinedInDebugState (issue 0#32 (also (fun d => { d with instrcompl := false }) (haltedIn 0#2))))
      (fun t => t.dscr.undL && !t.dscr.sdabortL && t.dscr.instrcompl && !itrBusy t) = true ∧
    shows (applyEvent .syncDataAbortInDebugState
      (issue 0#32 (also (fun d => { d with instrcompl := false }) (haltedIn 0#2))))
      (fun t => t.dscr.sdabortL && !t.dscr.undL && t.dscr.instrcompl && !itrBusy t) = true := by decide
/-- R4: `may_halt` and `ack_by_state` as predicates that are no default, on bit [11] and on r2 bit 31. DBGEN LOW still keeps
`may_halt` false (R153). -/
theorem test_open_predicates :
    mayHalt { withDscr (fun d => { d with intdis := true }) with
      params := { Config.Params.defaults with
        haltPolicy := { Config.Params.defaults.haltPolicy with breakpoint := .bit .intdis } } } .breakpoint = true ∧
    mayHalt { State.reset with
      pins := ⟨false, true, true, true⟩
      params := { Config.Params.defaults with
        haltPolicy := { Config.Params.defaults.haltPolicy with externalRequest := .always } } } .externalRequest = false ∧
    dbgackOut { withReg 2#4 0x80000000#32 with
      params := { Config.Params.defaults with ackByState := .no (.bit (.reg 2 31)) } } = false ∧
    dbgackOut { withReg 2#4 0x7FFFFFFF#32 with
      params := { Config.Params.defaults with ackByState := .no (.bit (.reg 2 31)) } } = true := by decide
/-- HW19. -/
theorem test_debug_exception :
    shows (applyEvent (.debugException .syncWatchpoint) (withDscr (fun d => { d with mdbgen := true })))
      (fun t => decide (viewExtApb t false = 0x0000802A#32)) = true := by decide
/-- HW21. -/
theorem test_interrupt_disabled :
    faults (applyEvent (.interrupt .irq) (withDscr (fun d => { d with intdis := true, mdbgen := true })))
      (.notEnabled (.interrupt .irq)) = true := by decide
/-- HW24. -/
theorem test_processor_reset_keeps_fields :
    shows (applyEvent (.reset true false) (haltedIn 0#2))
      (fun t => decide (t.cpu.dbg = .normal) && t.dscr.hdbgen && t.faults.itrenOutsideDebugState) = true := by decide

/-! Steps. -/

/-- The issued word runs in debug state, and the pc does not move (P3 step 11). -/
theorem test_step_issued_word :
    shows (step (queued [.processor] [] [] [] (issue 0xEE100E11#32 (also (fun d => { d with instrcompl := false })
      (haltedIn 0#2))))) (fun t => t.dscr.instrcompl && !itrBusy t && decide (t.cpu.pc = 0#32)) = true := by decide
/-- Nothing scheduled: the state after reset has no step until something outside fills the queues (log 6). -/
theorem test_step_reset : faults (step State.reset) .noTurn = true := by decide
/-- A word of the table runs as the first instruction after reset. -/
theorem test_withFetchWord :
    shows (step (State.reset.withFetchWord 32 0xEE100E11)) (fun t => t.dscr.pipeadv) = true ∧
    shows (step (State.reset.withFetchWord 32 0xEE000E15)) (fun t => t.dscr.txfull) = true ∧
    shows (step (State.reset.withFetchWord 16 0x084)) (fun t => decide (t.apbResult = some (.ignored none))) = true := by
  decide

/-- R128: a reset of the register ends the stall of a read, a reset of the processor alone does not. R125 (b): a held write
completes after the reset. -/
theorem test_reset_ends_stall :
    shows (applyEvent (.reset false true) (holding .dtrtxRead (haltedIn 1#2)))
      (fun t => decide (t.stalledAccess = some .dtrtxReadEnded)) = true ∧
    shows (applyEvent (.reset true false) (holding .dtrtxRead (haltedIn 1#2)))
      (fun t => decide (t.stalledAccess = some .dtrtxRead)) = true ∧
    shows (applyEvent (.reset true true) (holding (.dtrrxWrite 5#32) (also (fun d => { d with rxfull := true })
      (haltedIn 1#2)))) (fun t => shows (step t) (fun u => decide (u.apbResult = some (.ok none)))) = true := by decide

/-! Witnesses: for each statement with hypotheses, concrete values that meet them, at the boundaries of each clause. -/

theorem test_witness_RegisterWriteChangesOneRegister :
    (14#4 ≠ 15#4) ∧ (15#4 ≠ 14#4) ∧ readReg (writeReg 14#4 7#32 State.reset) 14#4 = 7#32 ∧
    readReg (writeReg 14#4 7#32 State.reset) 0#4 = 0#32 := by decide
theorem test_witness_AuthenticationBitsFollowSignals : ∃ t, writeDscr 0x4000#32 State.reset = .ok t := ⟨_, rfl⟩
theorem test_witness_ResetEventRestoresFields :
    (true || false) = true ∧ (false || true) = true ∧ (true || true) = true := by decide
theorem test_witness_WriteBackKeepsFieldsButMaskedDebugModes :
    (haltedIn 2#2).dscr.extdccmode ≠ 0b11#2 ∧ (haltedIn 2#2).pins.dbgen = true ∧
    ({ haltedIn 2#2 with pins := ⟨false, true, true, true⟩ } : State).dscr.extdccmode ≠ 0b11#2 := by decide
theorem test_witness_ProgrammedDebugModesRevertWithDbgen :
    ∃ t, writeDscr 0xC000#32 { State.reset with pins := ⟨false, true, true, true⟩ } = .ok t ∧
      ({ State.reset with pins := ⟨false, true, true, true⟩ } : State).pins.dbgen = false := ⟨_, rfl, rfl⟩
/-- User mode with bit [12] clear, a privileged mode with bit [12] set; full and empty data registers. -/
theorem test_witness_permitted_accesses :
    (14#4 ≠ 15#4) ∧ ¬((userState false).cpu.mode = .user ∧ (userState false).dscr.udccdis = true) ∧
    ¬((withDscr (fun d => { d with udccdis := true, rxfull := true, txfull := true })).cpu.mode = .user ∧
      (withDscr (fun d => { d with udccdis := true, rxfull := true, txfull := true })).dscr.udccdis = true) := by decide
theorem test_witness_MrcDscrIntReturnsInternalView :
    shows (exec (.mrcDbgdscrint 14#4) (userState false)) (fun t => t.dscr.pipeadv) = true := by decide
theorem test_witness_MrcDscrExtReturnsExternalView :
    (14#4 ≠ 15#4) ∧ ({ State.reset with cpu := { State.reset.cpu with mode := .monitor } } : State).cpu.mode ≠ .user := by
  decide
/-- A clean word under the default policy, a word with every reserved bit set under the other. -/
theorem test_witness_McrDscrExtWritesEightFields :
    hasReservedOne (readReg (withReg 2#4 0x6F2FFDFF#32) 2#4) = false ∧
    (readReg (withReg 2#4 0x6F2FFDFF#32) 2#4).extractLsb' 20 2 ≠ 0b11#2 ∧ State.reset.cpu.mode ≠ .user ∧
    ({ withReg 2#4 0x90C00200#32 with params := { Config.Params.defaults with sbzpPolicy := .ignore } } :
      State).params.sbzpPolicy = .ignore ∧ (0x90C00200#32).extractLsb' 20 2 ≠ 0b11#2 := by decide
theorem test_witness_ReservedWriteDataRefused :
    readReg (withReg 14#4 0x200#32) 14#4 = 0x200#32 ∧ hasReservedOne 0x200#32 = true ∧
    hasReservedOne 0x80000000#32 = true ∧ readReg (withReg 14#4 0x300000#32) 14#4 = 0x300000#32 ∧
    hasReservedOne 0x300000#32 = false ∧ (0x300000#32).extractLsb' 20 2 = 0b11#2 ∧
    (0xF00000#32).extractLsb' 20 2 = 0b11#2 ∧
    refuses (exec (.apbWrDbgdscrext 0x200#32) (userState true)) .sbzpViolation = true := by decide
theorem test_witness_McrToReadOnlyViewByPolicy :
    State.reset.params.roMcrPolicy = .refuse ∧
    ({ haltedIn 0#2 with params := { Config.Params.defaults with roMcrPolicy := .undefinedException } } :
      State).params.roMcrPolicy = .undefinedException ∧ (haltedIn 0#2).cpu.dbg ≠ .normal := by decide
theorem test_witness_MrcDtrRxIntTakesData :
    (withDscr (fun d => { d with rxfull := true })).dscr.rxfull = true ∧
    (withDscr (fun d => { d with rxfull := true })).cpu.mode ≠ .user := by decide
theorem test_witness_McrDtrTxIntGivesData : State.reset.dscr.txfull = false ∧ State.reset.cpu.mode ≠ .user := by decide
theorem test_witness_UserAccessTakesUndefinedException :
    (14#4 ≠ 15#4) ∧ (userState true).cpu.mode = .user ∧ (userState true).dscr.udccdis = true ∧
    Instr.mcrDbgdtrtxint 14#4 ∈ [Instr.mrcDbgdscrint 14#4, .mrcDbgdscrext 14#4, .mcrDbgdscrext 14#4,
      .mrcDbgdtrrxint 14#4, .mcrDbgdtrtxint 14#4] := by decide
theorem test_witness_Cp14AccessRefusals :
    (14#4 ≠ 15#4) ∧ (userState false).cpu.mode = .user ∧ (userState false).dscr.udccdis = false := by decide
theorem test_witness_ApbReadDscrCopiesLatches : (haltedIn 0#2).cpu.dbg ≠ .normal := by decide
theorem test_witness_ApbWriteDscrWritesEightFields :
    State.reset.params.sbzpPolicy = .refuse ∧ hasReservedOne 0x6F2FFDFF#32 = false ∧
    (0x6F2FFDFF#32).extractLsb' 20 2 ≠ 0b11#2 := by decide
theorem test_witness_NonblockingDtrrxWrite :
    State.reset.dscr.extdccmode = 0b00#2 ∧ State.reset.dscr.rxfullL = false ∧
    (withDscr (fun d => { d with rxfullL := true })).dscr.extdccmode = 0b00#2 := by decide
theorem test_witness_StallDtrrxWrite :
    (haltedIn 1#2).dscr.extdccmode = 0b01#2 ∧ (haltedIn 1#2).dscr.rxfull = false ∧
    (also (fun d => { d with rxfull := true }) (haltedIn 1#2)).dscr.extdccmode = 0b01#2 := by decide
theorem test_witness_FastDtrrxWrite :
    (haltedIn 2#2).dscr.extdccmode = 0b10#2 ∧ (haltedIn 2#2).dscr.sdabortL = false ∧
    (haltedIn 2#2).dscr.instrcompl = true ∧ (haltedIn 2#2).dscr.rxfull = false ∧ (haltedIn 2#2).dscr.itren = true ∧
    (also (fun d => { d with sdabortL := true }) (haltedIn 2#2)).dscr.sdabortL = true ∧
    ¬((also (fun d => { d with rxfull := true }) (haltedIn 2#2)).dscr.instrcompl = true ∧
      (also (fun d => { d with rxfull := true }) (haltedIn 2#2)).dscr.rxfull = false ∧
      (also (fun d => { d with rxfull := true }) (haltedIn 2#2)).dscr.itren = true) := by decide
theorem test_witness_NonblockingDtrtxRead :
    (withDscr (fun d => { d with txfull := true, txfullL := true })).dscr.extdccmode = 0b00#2 ∧
    (withDscr (fun d => { d with txfull := true, txfullL := true })).dscr.txfullL = true ∧
    (withDscr (fun d => { d with txfull := true, txfullL := true })).dscr.txfull = true := by decide
theorem test_witness_StallDtrtxRead :
    (haltedIn 1#2).dscr.extdccmode = 0b01#2 ∧ (haltedIn 1#2).dscr.txfull = false := by decide
theorem test_witness_FastDtrtxRead :
    (also (fun d => { d with txfull := true }) (haltedIn 2#2)).dscr.extdccmode = 0b10#2 ∧
    (also (fun d => { d with txfull := true }) (haltedIn 2#2)).dscr.sdabortL = false ∧
    (also (fun d => { d with txfull := true }) (haltedIn 2#2)).dscr.instrcompl = true ∧
    (also (fun d => { d with txfull := true }) (haltedIn 2#2)).dscr.txfull = true ∧
    (also (fun d => { d with txfull := true }) (haltedIn 2#2)).dscr.itren = true ∧
    (also (fun d => { d with sdabortL := true }) (haltedIn 2#2)).dscr.sdabortL = true ∧
    (haltedIn 2#2).dscr.txfull = false := by decide
theorem test_witness_NonblockingItrWrite :
    (haltedIn 0#2).dscr.extdccmode = 0b00#2 ∧ (haltedIn 0#2).dscr.sdabortL = false ∧
    (haltedIn 0#2).dscr.instrcomplL = true ∧ (haltedIn 0#2).dscr.itren = true ∧
    (also (fun d => { d with itren := false }) (haltedIn 0#2)).dscr.itren = false ∧
    (also (fun d => { d with instrcomplL := false }) (haltedIn 0#2)).dscr.instrcomplL = false ∧
    (also (fun d => { d with sdabortL := true }) (haltedIn 0#2)).dscr.sdabortL = true := by decide
theorem test_witness_StallItrWrite :
    (haltedIn 1#2).dscr.extdccmode = 0b01#2 ∧ (haltedIn 1#2).dscr.sdabortL = false ∧
    (haltedIn 1#2).dscr.instrcompl = true ∧ (haltedIn 1#2).dscr.itren = true ∧
    (also (fun d => { d with itren := false }) (haltedIn 1#2)).dscr.instrcompl = true ∧
    (also (fun d => { d with instrcompl := false }) (haltedIn 1#2)).dscr.sdabortL = false ∧
    (also (fun d => { d with sdabortL := true }) (haltedIn 1#2)).dscr.extdccmode = 0b01#2 := by decide
theorem test_witness_FastItrWrite :
    (haltedIn 2#2).dscr.extdccmode = 0b10#2 ∧ (haltedIn 2#2).dscr.sdabortL = false ∧
    (haltedIn 2#2).dscr.instrcompl = true ∧
    (also (fun d => { d with instrcompl := false }) (haltedIn 2#2)).dscr.instrcompl = false ∧
    (also (fun d => { d with sdabortL := true }) (haltedIn 2#2)).dscr.sdabortL = true := by decide
/-- One access whose clause asks nothing more, one in Fast mode, one write of DBGITR. -/
theorem test_witness_StickySyncAbortGatesIssue :
    (Instr.apbRdDbgdtrtxextStall).dccMode = some .stall ∧ (Instr.apbWrDbgdtrrxextFast 0#32).dccMode = some .fast ∧
    (Instr.apbWrDbgitrStall 0#32).dccMode = some .stall ∧
    (also (fun d => { d with sdabortL := true }) (haltedIn 1#2)).dscr.extdccmode = DccMode.stall.code ∧
    (also (fun d => { d with sdabortL := true }) (haltedIn 2#2)).dscr.extdccmode = DccMode.fast.code ∧
    (also (fun d => { d with sdabortL := true }) (haltedIn 2#2)).dscr.sdabortL = true := by decide
theorem test_witness_UnselectedModeRefusesAccesses :
    (Instr.apbWrDbgitrFast 0#32).dccMode = some .fast ∧ (haltedIn 3#2).dscr.extdccmode ≠ DccMode.fast.code ∧
    (haltedIn 0#2).dscr.extdccmode ≠ DccMode.fast.code ∧ Config.Params.wf Config.Params.defaults = true ∧
    encode Config.Params.defaults (.apbWrDbgitrFast 0#32) = .access (writeOf 0x84 0#32) := by decide
/-- Halted, so that bit [24] is no free bit. -/
theorem test_witness_DscrReadPredictsIgnoredAccesses :
    ∃ t, (haltedIn 0#2).dscr.extdccmode = 0b00#2 ∧ exec .apbRdDbgdscrext (haltedIn 0#2) = .next t ∧
      t.apbResult = some (.ok (some (viewExtApb (haltedIn 0#2) (drawnBit (haltedIn 0#2) 0)))) ∧
      (haltedIn 0#2).cpu.dbg ≠ .normal ∧ (haltedIn 0#2).dscr.sdabortL = false :=
  ⟨_, rfl, rfl, rfl, by decide, rfl⟩
theorem test_witness_NonblockingAccessesAreSafe :
    handshake (haltedIn 0#2) = true ∧
    shows (exec (.apbWrDbgdtrrxextNonblocking 1#32) (haltedIn 0#2)) (fun t => decide (t.apbResult = some (.ok none))) =
      true ∧
    shows (exec (.apbWrDbgitrNonblocking 1#32) (haltedIn 0#2)) (fun t => decide (t.apbResult = some (.ok none))) = true ∧
    (Instr.apbWrDbgitrNonblocking 1#32).dccMode = some .nonblocking := by decide
/-- AP20, for the read. -/
theorem test_witness_NonblockingAccessesAreSafe_read :
    txLatchSound (withDscr (fun d => { d with txfull := true, txfullL := true })) = true ∧
    shows (exec .apbRdDbgdtrtxextNonblocking (withDscr (fun d => { d with txfull := true, txfullL := true })))
      (fun t => decide (t.apbResult = some (.ok (some 0#32)))) = true := by decide
theorem test_witness_EnterDebugStateReportsCause :
    mayHalt State.reset .externalRequest = true ∧
    State.reset.params.haltPolicy = Config.Params.defaults.haltPolicy := by decide
theorem test_witness_LeavingDebugStateTakesTwoEvents :
    ({ haltedIn 0#2 with cpu := { (haltedIn 0#2).cpu with dbg := .exiting } } : State).cpu.dbg = .exiting ∧
    (haltedIn 0#2).cpu.dbg ≠ .exiting ∧ State.reset.cpu.dbg ≠ .exiting := by decide
theorem test_witness_DebugStateExceptionsSetStickyBits :
    (haltedIn 0#2).cpu.dbg ≠ .normal ∧ State.reset.cpu.dbg = .normal := by decide
theorem test_witness_DebugExceptionReportsCause :
    (withDscr (fun d => { d with mdbgen := true })).cpu.dbg = .normal ∧
    (withDscr (fun d => { d with mdbgen := true })).pins.dbgen = true ∧
    (withDscr (fun d => { d with mdbgen := true })).dscr.mdbgen = true ∧
    (withDscr (fun d => { d with mdbgen := true })).dscr.hdbgen = false ∧
    Cause.vectorCatch ∈ [Cause.breakpoint, .bkptInstruction, .vectorCatch, .syncWatchpoint] ∧
    Cause.haltRequest ∉ [Cause.breakpoint, .bkptInstruction, .vectorCatch, .syncWatchpoint] := by decide
theorem test_witness_InterruptDisableMasksIrqAndFiq :
    interruptsDisabled (withDscr (fun d => { d with intdis := true, hdbgen := true })) = true ∧
    interruptsDisabled (withDscr (fun d => { d with intdis := true })) = false ∧ (haltedIn 0#2).cpu.dbg ≠ .normal := by
  decide
theorem test_witness_DbgAckForcesOutputsHigh :
    (withDscr (fun d => { d with dbgack := true })).dscr.dbgack = true ∧
    State.reset.params.ackByState = Config.Params.defaults.ackByState ∧
    State.reset.params.triggerByState = Config.Params.defaults.triggerByState := by decide
/-- Enabled in normal state and for an issued word out of scope; not enabled for an issued word the decoder knows, and not
in debug state with nothing issued. -/
theorem test_witness_DtrEventsAreTheDtrInstructions :
    State.reset.cpu.issued = none ∧ State.reset.cpu.dbg = .normal ∧
    (issue 0xEE100E15#32 (haltedIn 0#2)).cpu.issued = some 0xEE100E15#32 ∧
    decodeWord (haltedIn 0#2).params 0xEE100E15#32 = .error .notInScope ∧
    decodeWord (haltedIn 0#2).params 0xEE100E11#32 = .ok (.mrcDbgdscrint 0#4) ∧
    faults (applyEvent (.readDtrRxInt 0#4) (issue 0xEE100E11#32 (haltedIn 0#2))) (.notEnabled (.readDtrRxInt 0#4)) =
      true ∧
    faults (applyEvent (.writeDtrTxInt 0#4) (haltedIn 0#2)) (.notEnabled (.writeDtrTxInt 0#4)) = true := by decide
/-- An issued word in debug state, a word of the processor's own stream in normal state, and debug state with nothing issued
and a word in the stream. -/
theorem test_witness_ProcessorStepRunsDecodedWord :
    decodeWord State.reset.params 0xEE100E11#32 = .ok (.mrcDbgdscrint 0#4) ∧
    (queued [.processor] [] [] [] (issue 0xEE100E11#32 (haltedIn 0#2))).cpu.issued = some 0xEE100E11#32 ∧
    (queued [.processor] [0xEE100E11#32] [] [] State.reset).agenda.schedule = [.processor] ∧
    (queued [.processor] [0xEE100E11#32] [] [] State.reset).agenda.program = [0xEE100E11#32] ∧
    State.reset.cpu.issued = none ∧ State.reset.cpu.dbg = .normal ∧
    (haltedIn 0#2).cpu.issued = none ∧ (haltedIn 0#2).cpu.dbg ≠ .normal ∧
    faults (step (queued [.processor] [0xEE100E11#32] [] [] (haltedIn 0#2))) (.nothingToDo .processor) = true := by decide
theorem test_witness_DebuggerStepRunsDecodedAccess :
    (queued [.debugger] [] [readOf 0x88] [] State.reset).agenda.schedule = [.debugger] ∧
    (queued [.debugger] [] [readOf 0x88] [] State.reset).agenda.accesses = [readOf 0x88] ∧
    State.reset.stalledAccess = none ∧
    decodeAccess State.reset.params State.reset.dscr.extdccmode (readOf 0x88) = .ok .apbRdDbgdscrext := by decide
theorem test_witness_HardwareStepDeliversEvent :
    (queued [.hardware] [] [] [.retire] State.reset).agenda.schedule = [.hardware] ∧
    (queued [.hardware] [] [] [.retire] State.reset).agenda.events = [.retire] := by decide
/-- The first clause: one access for each of its three cases. -/
theorem test_witness_StalledAccessIsHeldUntilItsCondition :
    (haltedIn 1#2).stalledAccess = none ∧
    decodeAccess State.reset.params (haltedIn 1#2).dscr.extdccmode (writeOf 0x80 5#32) =
      .ok (.apbWrDbgdtrrxextStall 5#32) ∧
    (also (fun d => { d with rxfull := true }) (haltedIn 1#2)).dscr.rxfull = true ∧
    decodeAccess State.reset.params (haltedIn 1#2).dscr.extdccmode (readOf 0x8C) = .ok .apbRdDbgdtrtxextStall ∧
    (haltedIn 1#2).dscr.txfull = false ∧
    decodeAccess State.reset.params (haltedIn 1#2).dscr.extdccmode (writeOf 0x84 5#32) = .ok (.apbWrDbgitrStall 5#32) ∧
    (also (fun d => { d with instrcompl := false }) (haltedIn 1#2)).dscr.sdabortL = false ∧
    (also (fun d => { d with instrcompl := false }) (haltedIn 1#2)).dscr.instrcompl = false := by decide
/-- The other clauses: each held access waiting and completing, in a state of another mode. -/
theorem test_witness_StalledAccessIsHeldUntilItsCondition_held :
    shows (step (holding (.dtrrxWrite 5#32) (also (fun d => { d with rxfull := true }) (haltedIn 0#2))))
      (fun t => decide (t.apbResult = some .stalled ∧ t.stalledAccess = some (.dtrrxWrite 5#32))) = true ∧
    shows (step (holding (.dtrrxWrite 5#32) (haltedIn 2#2)))
      (fun t => decide (t.apbResult = some (.ok none) ∧ t.dcc.dtrrx = 5#32 ∧ t.stalledAccess = none)) = true ∧
    shows (step (holding .dtrtxRead (haltedIn 2#2))) (fun t => decide (t.apbResult = some .stalled)) = true ∧
    shows (step (holding .dtrtxRead (also (fun d => { d with txfull := true }) (haltedIn 0#2))))
      (fun t => decide (t.apbResult = some (.ok (some 0#32)) ∧ t.stalledAccess = none)) = true ∧
    shows (step (holding .dtrtxReadEnded (haltedIn 0#2)))
      (fun t => decide (t.stalledAccess = none ∧ t.apbResult ≠ some .stalled)) = true ∧
    shows (step (holding .dtrtxReadEnded (also (fun d => { d with txfull := true, txfullL := true }) (haltedIn 0#2))))
      (fun t => decide (t.apbResult = some (.ok (some 0#32)) ∧ t.stalledAccess = none)) = true ∧
    shows (step (holding (.itrWrite 5#32) (also (fun d => { d with sdabortL := true }) (haltedIn 2#2))))
      (fun t => decide (t.apbResult = some (.ignored none) ∧ t.cpu.issued = none ∧ t.stalledAccess = none)) = true ∧
    shows (step (holding (.itrWrite 5#32) (also (fun d => { d with instrcompl := false }) (haltedIn 0#2))))
      (fun t => decide (t.apbResult = some .stalled ∧ t.cpu.issued = none)) = true ∧
    refuses (step (holding (.itrWrite 5#32) (also (fun d => { d with itren := false }) (haltedIn 0#2))))
      .itrWriteWithItrenClear = true ∧
    shows (step (holding (.itrWrite 5#32) (haltedIn 2#2))) (fun t => decide (t.cpu.issued = some 5#32)) = true := by decide
theorem test_witness_StalledWriteCompletesAfterRead :
    decodeAccess State.reset.params (withDscr (fun d => { d with extdccmode := 1#2, rxfull := true })).dscr.extdccmode
      (writeOf 0x80 5#32) = .ok (.apbWrDbgdtrrxextStall 5#32) ∧
    (withDscr (fun d => { d with extdccmode := 1#2, rxfull := true })).dscr.rxfull = true ∧ (14#4 ≠ 15#4) ∧
    State.reset.cpu.issued = none ∧ State.reset.cpu.dbg = .normal ∧ State.reset.cpu.mode ≠ .user ∧
    State.reset.stalledAccess = none ∧
    (queued [.debugger, .hardware, .debugger] [] [writeOf 0x80 5#32] [.readDtrRxInt 14#4] State.reset).agenda.schedule =
      [.debugger, .hardware, .debugger] := by decide
theorem test_witness_RejectedInputIsRefused :
    (queued [.processor] [] [] [] (issue 0#32 (haltedIn 0#2))).cpu.issued = some 0#32 ∧
    decodeWord State.reset.params 0#32 = .error .notInScope ∧
    decodeAccess State.reset.params 0#2 (readOf 0x80) = .error .notInScope ∧
    (readOf 0x8A).size = .word ∧ State.reset.params.dbgBase ≤ (readOf 0x8A).addr ∧
    ((readOf 0x8A).addr - State.reset.params.dbgBase) % 4 ≠ 0 ∧
    refuses (step (queued [.processor] [0#32] [] [] State.reset)) .notInScope = true ∧
    refuses (step (queued [.debugger] [] [readOf 0x80] [] State.reset)) .notInScope = true := by decide
theorem test_witness_PlacedWordRunsNext :
    decodeTableWord 32 0xEE101E15 = some (.mrcDbgdtrrxint 1#4) ∧
    encode State.reset.params (.mrcDbgdtrrxint 1#4) = .word 0xEE101E15#32 ∧ State.reset.cpu.issued = none ∧
    State.reset.cpu.dbg = .normal := by decide
theorem test_witness_DecodeEncodeAgree :
    Config.Params.wf tableParams = true ∧ Instr.encodable tableParams 0#2 (.mrcDbgdtrrxint 14#4) = true ∧
    Instr.encodable tableParams 2#2 (.apbWrDbgitrFast 0xFFFFFFFF#32) = true := by decide
theorem test_witness_EncodeDecodeAgree :
    decode tableParams 0#2 (.word 0xEE00EE15#32) = .ok (.mcrDbgdtrtxint 14#4) ∧
    decode tableParams 2#2 (.access (writeOf 0x84 5#32)) = .ok (.apbWrDbgitrFast 5#32) ∧
    decode tableParams 2#2 (.access (readOf 0x8C)) = .ok .apbRdDbgdtrtxextFast := by decide
/-- One state for the statements about every step: an instruction is issued from a state of the invariants. -/
theorem test_witness_step_invariants :
    ∃ t, step (queued [.debugger] [] [writeOf 0x84 0xEE100E11#32] [] (haltedIn 0#2)) = .next t ∧
      handshake (haltedIn 0#2) = true ∧ txLatchSound (haltedIn 0#2) = true ∧
      (haltedIn 0#2).dscr.instrcompl = !itrBusy (haltedIn 0#2) ∧ t.faults.dtrTxWriteWhileFull = false ∧
      itrBusy t = true ∧ t.dscr.instrcompl = false := ⟨_, rfl, by decide, by decide, by decide, rfl, rfl, rfl⟩
theorem test_witness_no_reset_next (p d : Bool) :
    deliversNext (.reset p d) (queued [.debugger] [] [writeOf 0x84 0xEE100E11#32] [] (haltedIn 0#2)) = false := by
  revert p d
  decide
/-- The three ways of OnlyDrcrOrResetClearsStickyBits: kept, cleared by a reset, cleared by DBGDRCR[2]. -/
theorem test_witness_OnlyDrcrOrResetClearsStickyBits :
    shows (step (queued [.hardware] [] [] [.retire] (withDscr (fun d => { d with undL := true })))) (fun t => t.dscr.undL) =
      true ∧
    shows (step (queued [.hardware] [] [] [.reset false true] (withDscr (fun d => { d with undL := true }))))
      (fun t => !t.dscr.undL) = true ∧
    shows (step (queued [.debugger] [] [writeOf 0x90 4#32] [] (withDscr (fun d => { d with undL := true }))))
      (fun t => !t.dscr.undL) = true := by decide
theorem test_witness_UserModeCannotWriteControls :
    shows (step (queued [.processor] [0xEE100E11#32] [] [] (userState false))) (fun t => t.dscr.pipeadv) = true ∧
    (userState false).cpu.mode = .user := by decide
theorem test_witness_HardwareWritesOnlyDefinedMoeCodes :
    shows (step (queued [.hardware] [] [] [.enterDebugState .externalRequest] State.reset))
      (fun t => decide (t.dscr.moe = 0b0100#4)) = true := by decide

end Sys2Proof.Tests
end

section
/-!
SUPPORT. The statements of 00_scope.md: what one turn of each agent runs (R3), and what every step keeps (R4, R7, R162).
`Ensures` is a postcondition of an outcome, with one rule for each way the model builds an outcome; `ensures_step`
reduces a rule about every step to the rows, the stalled accesses and the events.
-/

namespace Sys2Proof.Machine

/-! One turn. -/

theorem step_of_schedule {s : State} {a : Agent} {rest : List Agent} (h : s.agenda.schedule = a :: rest) :
    step s = turn a { s with agenda := { s.agenda with schedule := rest } } := by
  simp only [step, h]

theorem fetchWord_of_issued {s : State} {w : Word} (h : s.cpu.issued = some w) : fetchWord s = some (w, s) := by
  simp only [fetchWord, h]

theorem fetchWord_of_program {s : State} {w : Word} {ws : List Word} (hi : s.cpu.issued = none)
    (hd : s.cpu.dbg = .normal) (hp : s.agenda.program = w :: ws) :
    fetchWord s = some (w, { s with agenda := { s.agenda with program := ws } }) := by
  simp [fetchWord, inDebugState, hi, hd, hp]

/-- In debug state the processor's own stream is not fetched (R153 b). -/
theorem fetchWord_of_debug_idle {s : State} (hi : s.cpu.issued = none) (hd : s.cpu.dbg ≠ .normal) :
    fetchWord s = none := by
  simp [fetchWord, inDebugState, hi, hd]

/-- A fetch changes the state by the agenda at most. -/
theorem fetchWord_state {s t : State} {w : Word} (h : fetchWord s = some (w, t)) : ∃ g, t = { s with agenda := g } := by
  obtain ⟨w', -, hf⟩ | ⟨-, -, w', ws, -, hf⟩ | ⟨-, hf⟩ := fetchWord_cases s
  · obtain ⟨-, rfl⟩ : w' = w ∧ s = t := by simpa [hf] using h
    exact ⟨s.agenda, rfl⟩
  · obtain ⟨-, rfl⟩ : w' = w ∧ { s with agenda := { s.agenda with program := ws } } = t := by simpa [hf] using h
    exact ⟨_, rfl⟩
  · simp [hf] at h

theorem processorTurn_of_fetch {s t : State} {w : Word} {i : Instr} (hf : fetchWord s = some (w, t))
    (hd : decodeWord t.params w = .ok i) : processorTurn s = mapNext checkItren (exec i t) := by
  simp only [processorTurn, hf, hd]

theorem processorTurn_of_no_fetch {s : State} (hf : fetchWord s = none) :
    processorTurn s = .fault (.nothingToDo .processor) := by
  simp only [processorTurn, hf]

theorem debuggerTurn_of_decode {s : State} {a : Access} {more : List Access} {i : Instr}
    (hp : s.stalledAccess = none) (ha : s.agenda.accesses = a :: more)
    (hd : decodeAccess s.params s.dscr.extdccmode a = .ok i) :
    debuggerTurn s = mapNext checkItren (exec i { s with agenda := { s.agenda with accesses := more } }) := by
  simp only [debuggerTurn, hp, ha, hd]

theorem hardwareTurn_of_event {s : State} {e : Event} {es : List Event} (he : s.agenda.events = e :: es) :
    hardwareTurn s = mapNext checkItren (applyEvent e { s with agenda := { s.agenda with events := es } }) := by
  simp only [hardwareTurn, he]

/-- Settles O42: what the processor fetches, by the issued word and the debug state. -/
theorem processorStepRunsDecodedWord : Obligations.ProcessorStepRunsDecodedWord := by
  intro s rest hs
  rw [step_of_schedule hs]
  refine ⟨fun w i hdec => ⟨fun hi => ?issued, fun ws hi hd hp => ?stream⟩, fun hi hd => ?idle⟩
  case issued => exact processorTurn_of_fetch (fetchWord_of_issued hi) hdec
  case stream => exact processorTurn_of_fetch (fetchWord_of_program hi hd hp) hdec
  case idle => exact processorTurn_of_no_fetch (fetchWord_of_debug_idle hi hd)

/-- Settles O43: the debugger's turn on the head of its queue. -/
theorem debuggerStepRunsDecodedAccess : Obligations.DebuggerStepRunsDecodedAccess := by
  intro s rest a more i hs hp ha hd
  rw [step_of_schedule hs]
  exact debuggerTurn_of_decode hp ha hd

/-- Settles O44: the hardware's turn on the head of its queue. -/
theorem hardwareStepDeliversEvent : Obligations.HardwareStepDeliversEvent := by
  intro s rest e es hs he
  rw [step_of_schedule hs]
  exact hardwareTurn_of_event he

/-! Postconditions of outcomes. -/

/-- Whatever next state the outcome is, it meets `P`. -/
def Ensures (o : Outcome) (P : State → Prop) : Prop := ∀ t, o = .next t → P t

section
variable {P : State → Prop}

@[simp] theorem ensures_next {s : State} : Ensures (.next s) P ↔ P s := by
  simp [Ensures]

@[simp] theorem ensures_fault (r : Fault) : Ensures (.fault r) P := by
  simp [Ensures]

@[simp] theorem ensures_refused (r : Refusal) : Ensures (.refused r) P := by
  simp [Ensures]

theorem ensures_ite {c : Prop} [Decidable c] {o₁ o₂ : Outcome} (h₁ : Ensures o₁ P) (h₂ : Ensures o₂ P) :
    Ensures (if c then o₁ else o₂) P := by
  split <;> assumption

theorem ensures_inMode {m : DccMode} {s : State} {o : Outcome} (h : Ensures o P) : Ensures (inMode m s o) P :=
  fun t ht => h t (inMode_next ht).2

/-- A CP14 access runs or takes the Undefined instruction exception (R100). -/
theorem ensures_cp14Access {r : Cp14Reg} {rd : BitVec 4} {k : State → Outcome} {s : State}
    (hundef : P (raiseUndefined s)) (hrun : Ensures (k s) P) : Ensures (cp14Access r rd k s) P := by
  intro t ht
  obtain ⟨-, ⟨-, hk⟩ | ⟨-, rfl⟩⟩ := cp14Access_next ht
  · exact hrun t hk
  · exact hundef

/-- Every step ends in the check of R162 after a row, a stalled access or an event, on a state that differs from the
one before by the agenda and by a stalled access taken up again. -/
theorem ensures_step {s : State}
    (hexec : ∀ i g, Ensures (exec i { s with agenda := g }) (fun u => P (checkItren u)))
    (hretry : ∀ p g, Ensures (retryStalled p { s with agenda := g, stalledAccess := none }) (fun u => P (checkItren u)))
    (hhappen : ∀ e g, Ensures (happen e { s with agenda := g }) (fun u => P (checkItren u))) :
    Ensures (step s) P := by
  intro t ht
  obtain ⟨a, rest, -, hturn⟩ := step_next ht
  cases a with
  | processor =>
    obtain ⟨w, u, i, v, hfetch, -, hv, rfl⟩ := processorTurn_next hturn
    obtain ⟨g, rfl⟩ := fetchWord_state hfetch
    exact hexec i g v hv
  | debugger =>
    obtain ⟨p, u, -, hu, rfl⟩ | ⟨a, more, i, u, -, -, -, hu, rfl⟩ := debuggerTurn_next hturn
    · exact hretry p _ u hu
    · exact hexec i _ u hu
  | hardware =>
    obtain ⟨e, es, u, -, -, hu, rfl⟩ := hardwareTurn_next hturn
    exact hhappen e _ u hu

end

/-! The recorded faults and the parameters after each composed operation. -/

section
variable (s : State)

@[simp] theorem retire_faults : (retire s).faults = s.faults := by rw [retire_eq]
@[simp] theorem retire_params : (retire s).params = s.params := by rw [retire_eq]
@[simp] theorem takeException_faults (e : Exception) : (takeException e s).faults = s.faults := by
  rw [takeException_eq]
@[simp] theorem takeException_params (e : Exception) : (takeException e s).params = s.params := by
  rw [takeException_eq]
@[simp] theorem raiseUndefined_faults : (raiseUndefined s).faults = s.faults := by rw [raiseUndefined_eq]
@[simp] theorem raiseUndefined_params : (raiseUndefined s).params = s.params := by rw [raiseUndefined_eq]
@[simp] theorem undefinedInDebug_faults : (undefinedInDebug s).faults = s.faults := by rw [undefinedInDebug_eq]
@[simp] theorem undefinedInDebug_params : (undefinedInDebug s).params = s.params := by rw [undefinedInDebug_eq]
@[simp] theorem syncAbortInDebug_faults : (syncAbortInDebug s).faults = s.faults := by rw [syncAbortInDebug_eq]
@[simp] theorem syncAbortInDebug_params : (syncAbortInDebug s).params = s.params := by rw [syncAbortInDebug_eq]
@[simp] theorem changeSignal_faults (sig : Signal) (level : Bool) : (changeSignal sig level s).faults = s.faults := by
  cases sig <;> rfl
@[simp] theorem changeSignal_params (sig : Signal) (level : Bool) : (changeSignal sig level s).params = s.params := by
  cases sig <;> rfl

end

/-! What every step keeps. -/

/-- No recorded fault is cleared and no parameter changes (R7, R4). -/
structure KeepsRecord (s t : State) : Prop where
  faults : faultsKept s t = true
  params : t.params = s.params

theorem faultsKept_iff {s t : State} :
    faultsKept s t = true ↔
      (s.faults.dtrTxWriteWhileFull = true → t.faults.dtrTxWriteWhileFull = true) ∧
        (s.faults.itrenOutsideDebugState = true → t.faults.itrenOutsideDebugState = true) := by
  simp [faultsKept, ← Bool.not_eq_true, imp_iff_not_or]

section
variable {s t u : State}

theorem keepsRecord_of_eq (hf : t.faults = s.faults) (hp : t.params = s.params) : KeepsRecord s t :=
  ⟨faultsKept_iff.mpr (by simp [hf]), hp⟩

theorem ensures_next_keepsRecord (hf : t.faults = s.faults) (hp : t.params = s.params) :
    Ensures (.next t) (KeepsRecord s) :=
  ensures_next.mpr (keepsRecord_of_eq hf hp)

theorem KeepsRecord.trans (hst : KeepsRecord s t) (htu : KeepsRecord t u) : KeepsRecord s u := by
  obtain ⟨hfst, hpst⟩ := hst
  obtain ⟨hftu, hptu⟩ := htu
  rw [faultsKept_iff] at hfst hftu
  exact ⟨faultsKept_iff.mpr ⟨hftu.1 ∘ hfst.1, hftu.2 ∘ hfst.2⟩, hptu.trans hpst⟩

/-- The relation sees the recorded faults and the parameters of the state before, and nothing else of it. -/
theorem KeepsRecord.of_start (h : KeepsRecord t u) (hf : t.faults = s.faults) (hp : t.params = s.params) :
    KeepsRecord s u :=
  (keepsRecord_of_eq hf hp).trans h

/-- The check of R162 may record its fault, and clears none. -/
theorem KeepsRecord.checkItren (h : KeepsRecord s t) : KeepsRecord s (checkItren t) :=
  h.trans ⟨faultsKept_iff.mpr (by simp +contextual), rfl⟩

theorem keepsRecord_recordDtrTxFault (s : State) : KeepsRecord s (recordDtrTxFault s) :=
  ⟨faultsKept_iff.mpr (by simp), rfl⟩

/-- A successful write of DBGDSCRext may record the fault of R162, and clears none. -/
theorem writeDscr_keepsRecord {v : Word} (h : writeDscr v s = .ok t) : KeepsRecord s t := by
  obtain ⟨-, rfl⟩ := writeDscr_ok h
  exact KeepsRecord.checkItren (keepsRecord_of_eq rfl rfl)

theorem reset_keepsRecord (p d : Bool) (s : State) : KeepsRecord s (reset p d s) := by
  refine KeepsRecord.checkItren ?_
  cases p <;> cases d <;> exact keepsRecord_of_eq rfl rfl

end

/-! Rows of the Stall mode and the read they share with the Nonblocking mode (R123, R127). -/

theorem stallDtrrxWrite_keepsRecord (v : Word) (s : State) : Ensures (stallDtrrxWrite v s) (KeepsRecord s) := by
  intro t ht
  obtain ⟨-, rfl⟩ | ⟨-, rfl⟩ := stallDtrrxWrite_next ht <;> exact keepsRecord_of_eq rfl rfl

theorem stallDtrtxRead_keepsRecord (s : State) : Ensures (stallDtrtxRead s) (KeepsRecord s) := by
  intro t ht
  obtain ⟨-, rfl⟩ | ⟨-, rfl⟩ := stallDtrtxRead_next ht <;> exact keepsRecord_of_eq rfl rfl

theorem nonblockingDtrtxRead_keepsRecord (s : State) : Ensures (nonblockingDtrtxRead s) (KeepsRecord s) := by
  intro t ht
  obtain ⟨-, rfl⟩ | ⟨-, -, rfl⟩ | ⟨-, -, rfl⟩ := nonblockingDtrtxRead_next ht <;> exact keepsRecord_of_eq rfl rfl

theorem stallItrWrite_keepsRecord (v : Word) (s : State) : Ensures (stallItrWrite v s) (KeepsRecord s) := by
  intro t ht
  obtain ⟨-, rfl⟩ | ⟨-, -, rfl⟩ | ⟨-, -, -, rfl⟩ := stallItrWrite_next ht <;> exact keepsRecord_of_eq rfl rfl

theorem retryStalled_keepsRecord (p : StalledAccess) (s : State) : Ensures (retryStalled p s) (KeepsRecord s) := by
  cases p with
  | dtrrxWrite v => exact stallDtrrxWrite_keepsRecord v s
  | dtrtxRead => exact stallDtrtxRead_keepsRecord s
  | dtrtxReadEnded => exact nonblockingDtrtxRead_keepsRecord s
  | itrWrite v => exact stallItrWrite_keepsRecord v s

/-! CP14 rows. -/

theorem cp14Access_keepsRecord {r : Cp14Reg} {rd : BitVec 4} {k : State → Outcome} {s : State}
    (h : Ensures (k s) (KeepsRecord s)) : Ensures (cp14Access r rd k s) (KeepsRecord s) :=
  ensures_cp14Access (keepsRecord_of_eq (by simp) (by simp)) h

theorem execMrcDbgdscrint_keepsRecord (rd : BitVec 4) (s : State) :
    Ensures (execMrcDbgdscrint rd s) (KeepsRecord s) :=
  cp14Access_keepsRecord (ensures_next_keepsRecord (by simp) (by simp))

theorem execMrcDbgdscrext_keepsRecord (rd : BitVec 4) (s : State) :
    Ensures (execMrcDbgdscrext rd s) (KeepsRecord s) := by
  refine cp14Access_keepsRecord (ensures_next.mpr ?_)
  split <;> exact keepsRecord_of_eq (by simp) (by simp)

/-- The write may record the fault of R162 before the instruction retires. -/
theorem execMcrDbgdscrext_keepsRecord (rd : BitVec 4) (s : State) :
    Ensures (execMcrDbgdscrext rd s) (KeepsRecord s) := by
  refine cp14Access_keepsRecord ?_
  split
  · next t hw => exact ensures_next.mpr ((writeDscr_keepsRecord hw).trans (keepsRecord_of_eq (by simp) (by simp)))
  · exact ensures_refused _

theorem execMcrDbgdscrintRefused_keepsRecord (rd : BitVec 4) (s : State) :
    Ensures (execMcrDbgdscrintRefused rd s) (KeepsRecord s) := by
  unfold execMcrDbgdscrintRefused
  split
  · exact ensures_refused _
  · exact ensures_next_keepsRecord (by simp) (by simp)

theorem execMrcDbgdtrrxint_keepsRecord (rd : BitVec 4) (s : State) :
    Ensures (execMrcDbgdtrrxint rd s) (KeepsRecord s) := by
  refine cp14Access_keepsRecord (ensures_next.mpr ?_)
  split <;> exact keepsRecord_of_eq (by simp) (by simp)

/-- A write of a full DBGDTRTX records its own fault (R105), and clears none. -/
theorem execMcrDbgdtrtxint_keepsRecord (rd : BitVec 4) (s : State) :
    Ensures (execMcrDbgdtrtxint rd s) (KeepsRecord s) := by
  refine cp14Access_keepsRecord ?_
  split
  · exact ensures_next.mpr ((keepsRecord_recordDtrTxFault s).trans (keepsRecord_of_eq (by simp) (by simp)))
  · exact ensures_next_keepsRecord (by simp) (by simp)

/-! APB rows. -/

theorem execApbRdDbgdscrext_keepsRecord (s : State) : Ensures (execApbRdDbgdscrext s) (KeepsRecord s) := by
  refine ensures_next.mpr ?_
  split <;> exact keepsRecord_of_eq rfl rfl

theorem execApbWrDbgdscrext_keepsRecord (v : Word) (s : State) :
    Ensures (execApbWrDbgdscrext v s) (KeepsRecord s) := by
  unfold execApbWrDbgdscrext
  split
  · next t hw => exact ensures_next.mpr ((writeDscr_keepsRecord hw).trans (keepsRecord_of_eq rfl rfl))
  · exact ensures_refused _

theorem execApbWrDbgdtrrxextNonblocking_keepsRecord (v : Word) (s : State) :
    Ensures (execApbWrDbgdtrrxextNonblocking v s) (KeepsRecord s) :=
  ensures_inMode (ensures_ite (ensures_next_keepsRecord rfl rfl) (ensures_next_keepsRecord rfl rfl))

theorem execApbWrDbgdtrrxextFast_keepsRecord (v : Word) (s : State) :
    Ensures (execApbWrDbgdtrrxextFast v s) (KeepsRecord s) :=
  ensures_inMode
    (ensures_ite (ensures_next_keepsRecord rfl rfl)
      (ensures_ite (ensures_next_keepsRecord rfl rfl) (ensures_refused _)))

theorem execApbRdDbgdtrtxextFast_keepsRecord (s : State) :
    Ensures (execApbRdDbgdtrtxextFast s) (KeepsRecord s) :=
  ensures_inMode
    (ensures_ite (ensures_next_keepsRecord rfl rfl)
      (ensures_ite (ensures_next_keepsRecord rfl rfl) (ensures_refused _)))

theorem execApbWrDbgitrNonblocking_keepsRecord (v : Word) (s : State) :
    Ensures (execApbWrDbgitrNonblocking v s) (KeepsRecord s) :=
  ensures_inMode
    (ensures_ite (ensures_next_keepsRecord rfl rfl)
      (ensures_ite (ensures_next_keepsRecord rfl rfl)
        (ensures_ite (ensures_refused _) (ensures_next_keepsRecord rfl rfl))))

theorem execApbWrDbgitrFast_keepsRecord (v : Word) (s : State) :
    Ensures (execApbWrDbgitrFast v s) (KeepsRecord s) :=
  ensures_inMode
    (ensures_ite (ensures_next_keepsRecord rfl rfl)
      (ensures_ite (ensures_refused _) (ensures_next_keepsRecord rfl rfl)))

theorem exec_keepsRecord (i : Instr) (s : State) : Ensures (exec i s) (KeepsRecord s) := by
  cases i with
  | mrcDbgdscrint rd => exact execMrcDbgdscrint_keepsRecord rd s
  | mrcDbgdscrext rd => exact execMrcDbgdscrext_keepsRecord rd s
  | mcrDbgdscrext rd => exact execMcrDbgdscrext_keepsRecord rd s
  | mcrDbgdscrintRefused rd => exact execMcrDbgdscrintRefused_keepsRecord rd s
  | mrcDbgdtrrxint rd => exact execMrcDbgdtrrxint_keepsRecord rd s
  | mcrDbgdtrtxint rd => exact execMcrDbgdtrtxint_keepsRecord rd s
  | apbRdDbgdscrext => exact execApbRdDbgdscrext_keepsRecord s
  | apbWrDbgdscrext v => exact execApbWrDbgdscrext_keepsRecord v s
  | apbWrDbgdtrrxextNonblocking v => exact execApbWrDbgdtrrxextNonblocking_keepsRecord v s
  | apbWrDbgdtrrxextStall v => exact ensures_inMode (stallDtrrxWrite_keepsRecord v s)
  | apbWrDbgdtrrxextFast v => exact execApbWrDbgdtrrxextFast_keepsRecord v s
  | apbRdDbgdtrtxextNonblocking => exact ensures_inMode (nonblockingDtrtxRead_keepsRecord s)
  | apbRdDbgdtrtxextStall => exact ensures_inMode (stallDtrtxRead_keepsRecord s)
  | apbRdDbgdtrtxextFast => exact execApbRdDbgdtrtxextFast_keepsRecord s
  | apbWrDbgitrNonblocking v => exact execApbWrDbgitrNonblocking_keepsRecord v s
  | apbWrDbgitrStall v => exact ensures_inMode (stallItrWrite_keepsRecord v s)
  | apbWrDbgitrFast v => exact execApbWrDbgitrFast_keepsRecord v s
  | apbWrDbgdrcr v => exact ensures_next_keepsRecord rfl rfl

/-! Events. -/

theorem happen_keepsRecord (e : Event) (s : State) : Ensures (happen e s) (KeepsRecord s) := by
  cases e with
  | readDtrRxInt rd => exact execMrcDbgdtrrxint_keepsRecord rd s
  | writeDtrTxInt rd => exact execMcrDbgdtrtxint_keepsRecord rd s
  | reset p d => exact ensures_next.mpr (reset_keepsRecord p d s)
  | exitDebugState => exact ensures_next.mpr (KeepsRecord.checkItren (keepsRecord_of_eq rfl rfl))
  | undefinedInDebugState => exact ensures_next_keepsRecord (by simp) (by simp)
  | syncDataAbortInDebugState => exact ensures_next_keepsRecord (by simp) (by simp)
  | signalChange sig level => exact ensures_next_keepsRecord (by simp) (by simp)
  | debugException c => exact ensures_next_keepsRecord (takeException_faults _ _) (takeException_params _ _)
  | interrupt line => exact ensures_next_keepsRecord (by simp) (by simp)
  | retire | itrDone | itrIdle | enterDebugState | restartRequest | asyncAbortInDebugState | processorStatusChange =>
    exact ensures_next_keepsRecord rfl rfl

/-! Steps. -/

/-- The check of R162 records what it looks for. -/
theorem itrenChecked_checkItren (s : State) : itrenChecked (checkItren s) = true := by
  have hsame : itrenOutsideDebugState (checkItren s) = itrenOutsideDebugState s := rfl
  cases h : itrenOutsideDebugState s <;> simp [itrenChecked, hsame, h]

/-- Settles O56: rows, stalled accesses and events keep the record, and every step ends in the check of R162. -/
theorem faultsPersistAndItrenIsChecked : Obligations.FaultsPersistAndItrenIsChecked := by
  intro s t hstep
  have hall : Ensures (step s) (fun t => KeepsRecord s t ∧ itrenChecked t = true) := by
    refine ensures_step (fun i g u hu => ?row) (fun p g u hu => ?stalled) (fun e g u hu => ?event) <;>
      refine ⟨KeepsRecord.checkItren ?_, itrenChecked_checkItren u⟩
    case row => exact (exec_keepsRecord i _ u hu).of_start rfl rfl
    case stalled => exact (retryStalled_keepsRecord p _ u hu).of_start rfl rfl
    case event => exact (happen_keepsRecord e _ u hu).of_start rfl rfl
  obtain ⟨⟨hfaults, hparams⟩, hchecked⟩ := hall t hstep
  exact ⟨hfaults, hparams, hchecked⟩

end Sys2Proof.Machine
end

section
/-!
SUPPORT. The statements of 10_state.md about one operation: the core registers (R45), the word a read of DBGDSCR returns
(R41), the write of DBGDSCRext (R42), the debug exception and the interrupts (R28, R31) and the outputs (R32).
-/

namespace Sys2Proof.Machine

/-! Core registers. -/

theorem toNat_lt_of_ne_fifteen {rd : BitVec 4} (h : rd ≠ 15#4) : rd.toNat < 15 := by
  have hne : rd.toNat ≠ 15 := fun h15 => h (BitVec.eq_of_toNat_eq h15)
  omega

@[simp] theorem readReg_writeReg_same {rd : BitVec 4} (v : Word) (s : State) (h : rd ≠ 15#4) :
    readReg (writeReg rd v s) rd = v := by
  simp [readReg, toNat_lt_of_ne_fifteen h]

theorem readReg_writeReg_other {rd r : BitVec 4} (v : Word) (s : State) (h : r ≠ rd) :
    readReg (writeReg rd v s) r = readReg s r := by
  have hne : rd.toNat ≠ r.toNat := fun heq => h (BitVec.eq_of_toNat_eq heq.symm)
  unfold readReg
  split
  · simp [hne]
  · rfl

/-- Settles O1: the numbers other than 15 are the indices of x. -/
theorem registerWriteChangesOneRegister : Obligations.RegisterWriteChangesOneRegister :=
  fun _ _ v s hrd => ⟨readReg_writeReg_same v s hrd, readReg_writeReg_other v s⟩

/-! The word a read of DBGDSCR returns. -/

section
variable {n m : Nat} (x : BitVec n) (y : BitVec m) (i k : Nat)

/-! Reading a concatenation above its last piece and at the bottom of it. -/

theorem getLsbD_append_add : (x ++ y).getLsbD (i + m) = x.getLsbD i := by
  simp [BitVec.getLsbD_append]

theorem extractLsb'_append_add : (x ++ y).extractLsb' (i + m) k = x.extractLsb' i k := by
  simp [BitVec.extractLsb'_append_eq_of_le]

theorem getLsbD_append_zero (h : 0 < m) : (x ++ y).getLsbD 0 = y.getLsbD 0 := by
  simp only [BitVec.getLsbD_append, h, if_true]

theorem getLsbD_bit (b : Bool) : (bit b).getLsbD 0 = b := by
  simp [bit]

end

/-- Settles O2: each position of the concatenation of R41 is reached by dropping the pieces below it, which are 1, 2
or 4 bits wide. -/
theorem viewBitAssignment : Obligations.ViewBitAssignment := by
  intro s b27 b26 b24 w
  refine ⟨?_, ?_, ?_, ?_, ?_, ?_, ?_, ?_, ?_, ?_, ?_, ?_, ?_, ?_, ?_, ?_, ?_, ?_, ?_, ?_, ?_, ?_, ?_, ?_, ?_, ?_, ?_⟩
  all_goals
    simp only [w, viewWord, getLsbD_append_add (m := 1), getLsbD_append_add (m := 2), getLsbD_append_add (m := 4),
      extractLsb'_append_add (m := 1), extractLsb'_append_add (m := 2), extractLsb'_append_add (m := 4),
      getLsbD_append_zero (m := 1), BitVec.extractLsb'_append_eq_right (w' := 2),
      BitVec.extractLsb'_append_eq_right (w' := 4), Nat.zero_lt_one,
      getLsbD_bit, adadiscard, halted, restarted, inDebugState, ns, spniddis, spiddis, BitVec.getLsbD_zero]

/-- Bits [17] and [16] depend on the four signals alone (R24, R25). -/
theorem viewWord_authentication (s : State) (b27 b26 b24 : Bool) :
    (viewWord s b27 b26 b24).getLsbD 17 = spniddis s ∧ (viewWord s b27 b26 b24).getLsbD 16 = spiddis s := by
  obtain ⟨-, -, -, -, -, -, -, -, -, -, -, -, h17, h16, -⟩ := viewBitAssignment s b27 b26 b24
  exact ⟨h17, h16⟩

/-- Bits [15] and [14] are the programmed bits while DBGEN is HIGH and 0 while it is LOW (R26, R27). -/
theorem viewWord_debugModes (s : State) (b27 b26 b24 : Bool) :
    (viewWord s b27 b26 b24).getLsbD 15 = (s.pins.dbgen && s.dscr.mdbgen) ∧
      (viewWord s b27 b26 b24).getLsbD 14 = (s.pins.dbgen && s.dscr.hdbgen) := by
  obtain ⟨-, -, -, -, -, -, -, -, -, -, -, -, -, -, h15, h14, -⟩ := viewBitAssignment s b27 b26 b24
  exact ⟨h15, h14⟩

theorem spniddis_eq_false_iff (s : State) : spniddis s = false ↔
    (s.pins.niden = true ∨ s.pins.dbgen = true) ∧ (s.pins.spniden = true ∨ s.pins.spiden = true) := by
  rw [spniddis, Bool.not_eq_false', Bool.and_eq_true, Bool.or_eq_true, Bool.or_eq_true]

/-- Settles O3: a write of DBGDSCRext changes no signal. -/
theorem authenticationBitsFollowSignals : Obligations.AuthenticationBitsFollowSignals := by
  intro s b27 b26 b24
  obtain ⟨h17, h16⟩ := viewWord_authentication s b27 b26 b24
  rw [h17, h16]
  refine ⟨spniddis_eq_false_iff s, by simp [spiddis], by simp [authstatus6], by simp [authstatus4], fun v t hw => ?_⟩
  obtain ⟨-, rfl⟩ := writeDscr_ok hw
  exact viewWord_authentication _ b27 b26 b24

/-! The write of DBGDSCRext. -/

theorem hasReservedOne_viewWord (s : State) (b27 b26 b24 : Bool) : hasReservedOne (viewWord s b27 b26 b24) = false := by
  obtain ⟨h31, -, -, h28, -, -, -, -, h2322, -, -, -, -, -, -, -, -, -, -, -, h9, -⟩ := viewBitAssignment s b27 b26 b24
  have h22 := congrArg (BitVec.getLsbD · 0) h2322
  have h23 := congrArg (BitVec.getLsbD · 1) h2322
  simp only [BitVec.getLsbD_extractLsb'] at h22 h23
  simp_all [hasReservedOne]

/-- The control fields of a word just read are the stored ones, with bits [15] and [14] masked by DBGEN (R26, R27). -/
theorem withControls_viewWord (s : State) (b27 b26 b24 : Bool) :
    s.dscr.withControls (viewWord s b27 b26 b24) =
      { s.dscr with mdbgen := s.pins.dbgen && s.dscr.mdbgen, hdbgen := s.pins.dbgen && s.dscr.hdbgen } := by
  obtain ⟨-, -, -, -, -, -, -, -, -, hmode, -, -, -, -, h15, h14, h13, h12, h11, h10, -, -, -, -, hmoe, -⟩ :=
    viewBitAssignment s b27 b26 b24
  simp only [Dscr.withControls, dataExtDccMode, dataMoe, hmode, h15, h14, h13, h12, h11, h10, hmoe]

theorem dataExtDccMode_viewWord (s : State) (b27 b26 b24 : Bool) :
    dataExtDccMode (viewWord s b27 b26 b24) = s.dscr.extdccmode :=
  congrArg Dscr.extdccmode (withControls_viewWord s b27 b26 b24)

/-- The condition of R162 in the words of the statements. -/
theorem itrenOutsideDebugState_eq (s : State) :
    itrenOutsideDebugState s = (s.dscr.itren && decide (s.cpu.dbg = .normal)) := by
  simp [itrenOutsideDebugState, inDebugState]

theorem writeDscr_accepted {v : Word} {s : State} (hreserved : s.params.sbzpPolicy = .ignore ∨ hasReservedOne v = false)
    (hmode : dataExtDccMode v ≠ 0b11#2) :
    writeDscr v s = .ok (checkItren { s with dscr := s.dscr.withControls v }) := by
  obtain ⟨hp, hr, -⟩ | ⟨-, hm, -⟩ | ⟨-, -, h⟩ := writeDscr_cases v s
  · simp [hp, hr] at hreserved
  · exact absurd hm hmode
  · exact h

theorem writeDscr_reservedBit {v : Word} {s : State} (hpolicy : s.params.sbzpPolicy = .refuse)
    (hreserved : hasReservedOne v = true) : writeDscr v s = .error .sbzpViolation := by
  simp [writeDscr, hpolicy, hreserved]

theorem writeDscr_reservedMode {v : Word} {s : State}
    (hreserved : s.params.sbzpPolicy = .ignore ∨ hasReservedOne v = false) (hmode : dataExtDccMode v = 0b11#2) :
    writeDscr v s = .error .reservedExtDccMode := by
  obtain ⟨hp, hr, -⟩ | ⟨-, -, h⟩ | ⟨-, hm, -⟩ := writeDscr_cases v s
  · simp [hp, hr] at hreserved
  · exact h
  · exact absurd hmode hm

/-- Settles O6: a word just read passes both tests of `write_dscr`, and supplies the fields it was read from. -/
theorem writeBackKeepsFieldsButMaskedDebugModes : Obligations.WriteBackKeepsFieldsButMaskedDebugModes := by
  intro s b27 b26 b24 hmode
  rw [writeDscr_accepted (.inr (hasReservedOne_viewWord s b27 b26 b24)) (by rwa [dataExtDccMode_viewWord]),
    withControls_viewWord, checkItren, itrenOutsideDebugState_eq]

/-- Settles O7: the write programs both bits, and DBGEN masks them only where they are read. -/
theorem programmedDebugModesRevertWithDbgen : Obligations.ProgrammedDebugModesRevertWithDbgen := by
  intro s t v b27 b26 b24 hlow hw
  obtain ⟨-, ht⟩ := writeDscr_ok hw
  have hdscr : t.dscr = s.dscr.withControls v := congrArg State.dscr ht
  have hpins : t.pins.dbgen = false := (congrArg (·.pins.dbgen) ht).trans hlow
  obtain ⟨h15, h14⟩ := viewWord_debugModes t b27 b26 b24
  obtain ⟨hu15, hu14⟩ := viewWord_debugModes (changeSignal .dbgen true t) b27 b26 b24
  rw [hpins, Bool.false_and] at h15 h14
  refine ⟨h15, h14, _, rfl, hu15.trans ?_, hu14.trans ?_⟩ <;> simp [changeSignal, hdscr, Dscr.withControls]

/-- An APB write of DBGDSCRext is refused as `write_dscr` refuses it. -/
theorem apbWrDbgdscrext_of_error {v : Word} {s : State} {r : Refusal} (h : writeDscr v s = .error r) :
    exec (.apbWrDbgdscrext v) s = .refused r := by
  simp [exec, execApbWrDbgdscrext, h]

/-- So is a CP14 write wherever R86 and R100 let it run. -/
theorem mcrDbgdscrext_of_error {rd : BitVec 4} {s : State} {r : Refusal} (hrd : rd ≠ 15#4) (hmode : s.cpu.mode ≠ .user)
    (h : writeDscr (readReg s rd) s = .error r) : exec (.mcrDbgdscrext rd) s = .refused r := by
  simp [exec, execMcrDbgdscrext, cp14Access, hrd, cp14Check_of_ne_user _ hmode, h]

/-- Settles O11: each refusal of `write_dscr` reaches both interfaces. -/
theorem reservedWriteDataRefused : Obligations.ReservedWriteDataRefused := by
  intro v s
  have hboth : ∀ r, writeDscr v s = .error r → exec (.apbWrDbgdscrext v) s = .refused r ∧
      ∀ rd : BitVec 4, rd ≠ 15#4 → s.cpu.mode ≠ .user → readReg s rd = v →
        exec (.mcrDbgdscrext rd) s = .refused r := by
    intro r h
    refine ⟨apbWrDbgdscrext_of_error h, fun rd hrd hmode hv => ?_⟩
    exact mcrDbgdscrext_of_error hrd hmode (hv ▸ h)
  exact ⟨fun hpolicy hreserved => hboth _ (writeDscr_reservedBit hpolicy hreserved),
    fun hreserved hmode => hboth _ (writeDscr_reservedMode hreserved hmode)⟩

/-! Debug exceptions, interrupts and outputs. -/

theorem applyEvent_enabled {e : Event} {s : State} (h : enabled e s = true) : applyEvent e s = happen e s := by
  simp [applyEvent, h]

theorem applyEvent_not_enabled {e : Event} {s : State} (h : ¬enabled e s = true) :
    applyEvent e s = .fault (.notEnabled e) := by
  simp [applyEvent, h]

/-- The halting debug events are the other two causes (R182). -/
theorem isHaltingEvent_false_iff (c : Cause) :
    isHaltingEvent c = false ↔ c ∈ [Cause.breakpoint, .bkptInstruction, .vectorCatch, .syncWatchpoint] := by
  cases c <;> decide

theorem enabled_debugException_iff (c : Cause) (s : State) :
    enabled (.debugException c) s = true ↔
      s.cpu.dbg = .normal ∧ s.pins.dbgen = true ∧ s.dscr.mdbgen = true ∧ s.dscr.hdbgen = false ∧
        c ∈ [Cause.breakpoint, .bkptInstruction, .vectorCatch, .syncWatchpoint] := by
  rw [← isHaltingEvent_false_iff]
  simp [enabled, inDebugState, monitorMode, and_assoc]

/-- Settles O38: the enabling condition in the words of R181, then the exception. -/
theorem debugExceptionReportsCause : Obligations.DebugExceptionReportsCause := by
  intro c s ready
  have henabled : enabled (.debugException c) s = true ↔ ready := enabled_debugException_iff c s
  refine ⟨fun hready => ?_, fun hready => applyEvent_not_enabled (mt henabled.mp hready)⟩
  rw [applyEvent_enabled (henabled.mpr hready), happen, debugException, takeException_eq]
  exact ⟨_, _, rfl⟩

theorem interruptsDisabled_iff (s : State) :
    interruptsDisabled s = true ↔
      s.dscr.intdis = true ∧ s.pins.dbgen = true ∧ (s.dscr.mdbgen = true ∨ s.dscr.hdbgen = true) := by
  cases hm : s.dscr.mdbgen <;> simp [interruptsDisabled, hm, and_assoc]

/-- Settles O39: the mask of R31 is the one obstacle; in debug state the exception keeps the pc. -/
theorem interruptDisableMasksIrqAndFiq : Obligations.InterruptDisableMasksIrqAndFiq := by
  intro l s masked
  have henabled : enabled (.interrupt l) s = true ↔ ¬masked := by
    simp [enabled, masked, ← interruptsDisabled_iff]
  refine ⟨fun hmasked => applyEvent_not_enabled fun h => henabled.mp h hmasked, fun hmasked => ?_⟩
  rw [applyEvent_enabled (henabled.mpr hmasked), happen, takeException_eq]
  exact ⟨_, _, rfl, fun hdebug => if_pos (inDebugState_iff.mpr hdebug)⟩

/-- Settles O40: the default predicates of both outputs are `inDebugState`. -/
theorem dbgAckForcesOutputsHigh : Obligations.DbgAckForcesOutputsHigh := by
  intro s
  refine ⟨fun hack => ?forced, fun hdefault => ?ack, fun hdefault => ?trigger⟩
  case forced => simp [dbgackOut, dbgtriggerOut, hack]
  case ack => rw [dbgackOut, hdefault]; exact congrArg _ (holdsIn_inDebugState s)
  case trigger => rw [dbgtriggerOut, hdefault]; exact congrArg _ (holdsIn_inDebugState s)

/-! The state after reset. -/

/-- Settles O52: the flags, the mode and the faults are those of `State.reset`. -/
theorem handshakeHoldsAtReset : Obligations.HandshakeHoldsAtReset :=
  ⟨rfl, rfl, rfl, rfl⟩

end Sys2Proof.Machine
end

section
/-!
SUPPORT. The statements of 10_state.md about every step: InstrCompl follows the issued instruction (R20, R122), the
sticky exception bits (R33 to R35), the control fields (R40) and MOE (R36). `StepRan` says once what a step ran;
`KeepsStatus` and `KeepsRegister` say what the rows and the events leave of the register.
-/

namespace Sys2Proof.Machine

/-! What a step ran. -/

/-- The four ways a step answers a next state (R3): an instruction, an access, a stalled access tried again, or an
event, each run on a state that differs from `s` by the agenda and, for the third, by the stalled access taken up. -/
inductive StepRan (s t : State) : Prop where
  | instruction (w : Word) (i : Instr) (g : Agenda) (u : State)
      (hturn : s.agenda.schedule.head? = some .processor) (hdecode : decodeWord s.params w = .ok i)
      (hrun : exec i { s with agenda := g } = .next u) (ht : t = checkItren u)
  | access (a : Access) (i : Instr) (g : Agenda) (u : State)
      (hturn : s.agenda.schedule.head? = some .debugger) (hstall : s.stalledAccess = none)
      (haccess : s.agenda.accesses.head? = some a)
      (hdecode : decodeAccess s.params s.dscr.extdccmode a = .ok i)
      (hrun : exec i { s with agenda := g } = .next u) (ht : t = checkItren u)
  | retry (p : StalledAccess) (g : Agenda) (u : State)
      (hturn : s.agenda.schedule.head? = some .debugger)
      (hrun : retryStalled p { s with agenda := g, stalledAccess := none } = .next u) (ht : t = checkItren u)
  | event (e : Event) (g : Agenda) (u : State)
      (hturn : s.agenda.schedule.head? = some .hardware) (hnext : deliversNext e s = true)
      (henabled : enabled e { s with agenda := g } = true)
      (hrun : happen e { s with agenda := g } = .next u) (ht : t = checkItren u)

theorem step_ran {s t : State} (h : step s = .next t) : StepRan s t := by
  obtain ⟨a, rest, hs, hturn⟩ := step_next h
  have hhead : s.agenda.schedule.head? = some a := by simp [hs]
  cases a with
  | processor =>
    obtain ⟨w, u, i, v, hfetch, hdecode, hv, ht⟩ := processorTurn_next hturn
    obtain ⟨g, rfl⟩ := fetchWord_state hfetch
    exact .instruction w i g v hhead hdecode hv ht
  | debugger =>
    obtain ⟨p, u, -, hu, ht⟩ | ⟨a, more, i, u, hstall, hacc, hdecode, hu, ht⟩ := debuggerTurn_next hturn
    · exact .retry p _ u hhead hu ht
    · exact .access a i _ u hhead hstall (congrArg List.head? hacc) hdecode hu ht
  | hardware =>
    obtain ⟨e, es, u, hev, henabled, hu, ht⟩ := hardwareTurn_next hturn
    have hnext : deliversNext e s = true := by
      have he : s.agenda.events = e :: es := hev
      simp [deliversNext, hs, he]
    exact .event e _ u hhead hnext henabled hu ht

/-- The words the decoder knows are the six CP14 rows (R80, R83, R90). -/
theorem decodeWord_ok {p : Config.Params} {w : Word} {i : Instr} (h : decodeWord p w = .ok i) :
    ∃ rd, i = .mrcDbgdscrint rd ∨ i = .mrcDbgdscrext rd ∨ i = .mcrDbgdscrext rd ∨ i = .mcrDbgdscrintRefused rd ∨
      i = .mrcDbgdtrrxint rd ∨ i = .mcrDbgdtrtxint rd := by
  refine ⟨rdField w, ?_⟩
  simp only [decodeWord] at h
  (repeat' split at h) <;> cases h <;> simp

/-! What is kept of the register. -/

/-- The equality of (I4) of R122: InstrCompl is 0 exactly while an issued instruction is executing. -/
def ComplTracksIssue (s : State) : Prop := s.dscr.instrcompl = !itrBusy s

/-- The control fields (R40) and the sticky exception bits (R33 to R35): what is left of the stored fields when the
flags of the handshake, InstrCompl and Sticky pipeline advance are cleared. -/
def Dscr.settings (d : Dscr) : Dscr :=
  { d with
    rxfull := false, txfull := false, rxfullL := false, txfullL := false
    pipeadv := false, instrcompl := false, instrcomplL := false }

/-- The sticky exception bits that are set stay set. -/
structure KeepsSticky (d e : Dscr) : Prop where
  und : d.undL = true → e.undL = true
  adabort : d.adabortL = true → e.adabortL = true
  sdabort : d.sdabortL = true → e.sdabortL = true

/-- InstrCompl goes on following the issued instruction, and no sticky exception bit is cleared. -/
structure KeepsStatus (s t : State) : Prop where
  tracks : ComplTracksIssue s → ComplTracksIssue t
  sticky : KeepsSticky s.dscr t.dscr

/-- Beside the status, the eight control fields are unchanged. -/
structure KeepsRegister (s t : State) : Prop extends KeepsStatus s t where
  controls : sameControls t.dscr s.dscr = true

section
variable {s t u : State} {d e : Dscr}

theorem sameControls_of_settings (h : d.settings = e.settings) : sameControls d e = true := by
  simp only [Dscr.settings, Dscr.mk.injEq] at h
  simp [sameControls, h]

theorem keepsSticky_of_settings (h : e.settings = d.settings) : KeepsSticky d e := by
  simp only [Dscr.settings, Dscr.mk.injEq] at h
  constructor <;> simp [h]

theorem moe_of_sameControls (h : sameControls d e = true) : d.moe = e.moe := by
  simp only [sameControls, Bool.and_eq_true, beq_iff_eq] at h
  exact h.2

/-- An instruction that ends, issued or not, leaves none issued and InstrCompl set if one was (R151). -/
theorem tracks_of_finished (hcompl : t.dscr.instrcompl = (s.dscr.instrcompl || itrBusy s))
    (hissued : t.cpu.issued = none) (h : ComplTracksIssue s) : ComplTracksIssue t := by
  unfold ComplTracksIssue at *
  simp [hcompl, itrBusy_false_iff.mpr hissued, h]

theorem tracks_of_untouched (hcompl : t.dscr.instrcompl = s.dscr.instrcompl)
    (hissued : t.cpu.issued = s.cpu.issued) (h : ComplTracksIssue s) : ComplTracksIssue t := by
  rwa [ComplTracksIssue, itrBusy_eq_isSome, hcompl, hissued]

/-- An access that issues an instruction clears InstrCompl (R20, R134). -/
theorem tracks_of_issued {w : Word} (hcompl : t.dscr.instrcompl = false) (hissued : t.cpu.issued = some w) :
    ComplTracksIssue t := by
  simp [ComplTracksIssue, itrBusy, hcompl, hissued]

theorem keepsSticky_iff : KeepsSticky d e ↔
    (d.undL = true → e.undL = true) ∧ (d.adabortL = true → e.adabortL = true) ∧
      (d.sdabortL = true → e.sdabortL = true) :=
  ⟨fun ⟨hund, hadabort, hsdabort⟩ => ⟨hund, hadabort, hsdabort⟩,
    fun ⟨hund, hadabort, hsdabort⟩ => ⟨hund, hadabort, hsdabort⟩⟩

theorem KeepsSticky.trans {f : Dscr} (h : KeepsSticky d e) (h' : KeepsSticky e f) : KeepsSticky d f :=
  ⟨h'.und ∘ h.und, h'.adabort ∘ h.adabort, h'.sdabort ∘ h.sdabort⟩

theorem sameControls_trans {f : Dscr} (h : sameControls d e = true) (h' : sameControls e f = true) :
    sameControls d f = true := by
  simp only [sameControls, Bool.and_eq_true, beq_iff_eq] at *
  simp [h, h']

theorem KeepsStatus.trans (h : KeepsStatus s t) (h' : KeepsStatus t u) : KeepsStatus s u :=
  ⟨h'.tracks ∘ h.tracks, h.sticky.trans h'.sticky⟩

theorem KeepsRegister.trans (h : KeepsRegister s t) (h' : KeepsRegister t u) : KeepsRegister s u :=
  ⟨h.toKeepsStatus.trans h'.toKeepsStatus, sameControls_trans h'.controls h.controls⟩

theorem keepsRegister_of_untouched (hset : t.dscr.settings = s.dscr.settings)
    (hcompl : t.dscr.instrcompl = s.dscr.instrcompl) (hissued : t.cpu.issued = s.cpu.issued) : KeepsRegister s t :=
  ⟨⟨tracks_of_untouched hcompl hissued, keepsSticky_of_settings hset⟩, sameControls_of_settings hset⟩

theorem keepsRegister_of_issued {w : Word} (hset : t.dscr.settings = s.dscr.settings)
    (hcompl : t.dscr.instrcompl = false) (hissued : t.cpu.issued = some w) : KeepsRegister s t :=
  ⟨⟨fun _ => tracks_of_issued hcompl hissued, keepsSticky_of_settings hset⟩, sameControls_of_settings hset⟩

theorem ensures_untouched (hset : t.dscr.settings = s.dscr.settings)
    (hcompl : t.dscr.instrcompl = s.dscr.instrcompl) (hissued : t.cpu.issued = s.cpu.issued) :
    Ensures (.next t) (KeepsRegister s) :=
  ensures_next.mpr (keepsRegister_of_untouched hset hcompl hissued)

theorem ensures_issued {w : Word} (hset : t.dscr.settings = s.dscr.settings)
    (hcompl : t.dscr.instrcompl = false) (hissued : t.cpu.issued = some w) : Ensures (.next t) (KeepsRegister s) :=
  ensures_next.mpr (keepsRegister_of_issued hset hcompl hissued)

end

/-! Completion and exceptions. -/

theorem retire_keepsRegister (s : State) : KeepsRegister s (retire s) := by
  rw [retire_eq]
  exact ⟨⟨tracks_of_finished rfl rfl, keepsSticky_of_settings rfl⟩, sameControls_of_settings rfl⟩

/-- What retires is unchanged but for the flags of the handshake, if at all. -/
theorem ensures_retire {s t : State} (hset : t.dscr.settings = s.dscr.settings)
    (hcompl : t.dscr.instrcompl = s.dscr.instrcompl) (hissued : t.cpu.issued = s.cpu.issued) :
    Ensures (.next (retire t)) (KeepsRegister s) :=
  ensures_next.mpr ((keepsRegister_of_untouched hset hcompl hissued).trans (retire_keepsRegister t))

theorem raiseUndefined_keepsRegister (s : State) : KeepsRegister s (raiseUndefined s) := by
  rw [raiseUndefined_eq]
  exact ⟨⟨tracks_of_finished rfl rfl, ⟨by simp +contextual, id, id⟩⟩, by simp [sameControls]⟩

theorem takeException_keepsRegister (e : Exception) (s : State) : KeepsRegister s (takeException e s) := by
  rw [takeException_eq]
  exact keepsRegister_of_untouched rfl rfl rfl

theorem undefinedInDebug_keepsRegister (s : State) : KeepsRegister s (undefinedInDebug s) := by
  rw [undefinedInDebug_eq]
  exact ⟨⟨tracks_of_finished rfl rfl, ⟨fun _ => rfl, id, id⟩⟩, by simp [sameControls]⟩

theorem syncAbortInDebug_keepsRegister (s : State) : KeepsRegister s (syncAbortInDebug s) := by
  rw [syncAbortInDebug_eq]
  exact ⟨⟨tracks_of_finished rfl rfl, ⟨id, id, fun _ => rfl⟩⟩, by simp [sameControls]⟩

theorem asyncAbortInDebug_keepsRegister (s : State) : KeepsRegister s (asyncAbortInDebug s) :=
  ⟨⟨tracks_of_untouched rfl rfl, ⟨id, fun _ => rfl, id⟩⟩, by simp [sameControls]⟩

/-- `ItrDone` is delivered only while an issued instruction is executing (R151). -/
theorem itrDone_keepsRegister {s : State} (h : itrBusy s = true) : KeepsRegister s (itrDone s) :=
  ⟨⟨tracks_of_finished (by simp [h]) rfl, keepsSticky_of_settings rfl⟩, sameControls_of_settings rfl⟩

/-- `ItrIdle` is delivered only with InstrCompl 0 and nothing executing (R152), where the equality of (I4) fails. -/
theorem itrIdle_keepsRegister {s : State} (hbusy : itrBusy s = false) : KeepsRegister s (itrIdle s) :=
  ⟨⟨fun _ => by simpa [ComplTracksIssue, itrBusy] using hbusy, keepsSticky_of_settings rfl⟩,
    sameControls_of_settings rfl⟩

/-- A write of DBGDSCRext changes control fields only (R42). -/
theorem writeDscr_keepsStatus {v : Word} {s t : State} (h : writeDscr v s = .ok t) : KeepsStatus s t := by
  obtain ⟨-, rfl⟩ := writeDscr_ok h
  exact ⟨tracks_of_untouched rfl rfl, ⟨id, id, id⟩⟩

/-! Rows of the Stall mode and the read they share with the Nonblocking mode. -/

theorem stallDtrrxWrite_keepsRegister (v : Word) (s : State) : Ensures (stallDtrrxWrite v s) (KeepsRegister s) := by
  intro t ht
  obtain ⟨-, rfl⟩ | ⟨-, rfl⟩ := stallDtrrxWrite_next ht <;> exact keepsRegister_of_untouched rfl rfl rfl

theorem stallDtrtxRead_keepsRegister (s : State) : Ensures (stallDtrtxRead s) (KeepsRegister s) := by
  intro t ht
  obtain ⟨-, rfl⟩ | ⟨-, rfl⟩ := stallDtrtxRead_next ht <;> exact keepsRegister_of_untouched rfl rfl rfl

theorem nonblockingDtrtxRead_keepsRegister (s : State) : Ensures (nonblockingDtrtxRead s) (KeepsRegister s) := by
  intro t ht
  obtain ⟨-, rfl⟩ | ⟨-, -, rfl⟩ | ⟨-, -, rfl⟩ := nonblockingDtrtxRead_next ht <;>
    exact keepsRegister_of_untouched rfl rfl rfl

theorem stallItrWrite_keepsRegister (v : Word) (s : State) : Ensures (stallItrWrite v s) (KeepsRegister s) := by
  intro t ht
  obtain ⟨-, rfl⟩ | ⟨-, -, rfl⟩ | ⟨-, -, -, rfl⟩ := stallItrWrite_next ht
  · exact keepsRegister_of_untouched rfl rfl rfl
  · exact keepsRegister_of_untouched rfl rfl rfl
  · exact keepsRegister_of_issued rfl rfl rfl

theorem retryStalled_keepsRegister (p : StalledAccess) (s : State) : Ensures (retryStalled p s) (KeepsRegister s) := by
  cases p with
  | dtrrxWrite v => exact stallDtrrxWrite_keepsRegister v s
  | dtrtxRead => exact stallDtrtxRead_keepsRegister s
  | dtrtxReadEnded => exact nonblockingDtrtxRead_keepsRegister s
  | itrWrite v => exact stallItrWrite_keepsRegister v s

/-! Rows that write no control field and clear no sticky exception bit. -/

theorem cp14Access_keepsRegister {r : Cp14Reg} {rd : BitVec 4} {k : State → Outcome} {s : State}
    (h : Ensures (k s) (KeepsRegister s)) : Ensures (cp14Access r rd k s) (KeepsRegister s) :=
  ensures_cp14Access (raiseUndefined_keepsRegister s) h

theorem execMrcDbgdscrint_keepsRegister (rd : BitVec 4) (s : State) :
    Ensures (execMrcDbgdscrint rd s) (KeepsRegister s) := by
  refine cp14Access_keepsRegister ?_
  exact ensures_retire rfl rfl rfl

theorem execMrcDbgdscrext_keepsRegister (rd : BitVec 4) (s : State) :
    Ensures (execMrcDbgdscrext rd s) (KeepsRegister s) := by
  refine cp14Access_keepsRegister ?_
  dsimp only
  split <;> exact ensures_retire rfl rfl rfl

theorem execMcrDbgdscrintRefused_keepsRegister (rd : BitVec 4) (s : State) :
    Ensures (execMcrDbgdscrintRefused rd s) (KeepsRegister s) := by
  unfold execMcrDbgdscrintRefused
  split
  · exact ensures_refused _
  · exact ensures_next.mpr (raiseUndefined_keepsRegister s)

theorem execMrcDbgdtrrxint_keepsRegister (rd : BitVec 4) (s : State) :
    Ensures (execMrcDbgdtrrxint rd s) (KeepsRegister s) := by
  refine cp14Access_keepsRegister ?_
  dsimp only
  split <;> exact ensures_retire rfl rfl rfl

theorem execMcrDbgdtrtxint_keepsRegister (rd : BitVec 4) (s : State) :
    Ensures (execMcrDbgdtrtxint rd s) (KeepsRegister s) := by
  refine cp14Access_keepsRegister ?_
  split <;> exact ensures_retire rfl rfl rfl

theorem execApbRdDbgdscrext_keepsRegister (s : State) : Ensures (execApbRdDbgdscrext s) (KeepsRegister s) := by
  unfold execApbRdDbgdscrext
  split <;> exact ensures_untouched rfl rfl rfl

/-- The rows that write a control field or may clear a sticky exception bit: the writes of DBGDSCRext and of DBGDRCR. -/
def writesRegister : Instr → Bool
  | .mcrDbgdscrext _ | .apbWrDbgdscrext _ | .apbWrDbgdrcr _ => true
  | _ => false

theorem exec_keepsRegister {i : Instr} (s : State) (hi : writesRegister i = false) :
    Ensures (exec i s) (KeepsRegister s) := by
  cases i with
  | mrcDbgdscrint rd => exact execMrcDbgdscrint_keepsRegister rd s
  | mrcDbgdscrext rd => exact execMrcDbgdscrext_keepsRegister rd s
  | mcrDbgdscrintRefused rd => exact execMcrDbgdscrintRefused_keepsRegister rd s
  | mrcDbgdtrrxint rd => exact execMrcDbgdtrrxint_keepsRegister rd s
  | mcrDbgdtrtxint rd => exact execMcrDbgdtrtxint_keepsRegister rd s
  | apbRdDbgdscrext => exact execApbRdDbgdscrext_keepsRegister s
  | apbWrDbgdtrrxextNonblocking v =>
    exact ensures_inMode (ensures_ite (ensures_untouched rfl rfl rfl) (ensures_untouched rfl rfl rfl))
  | apbWrDbgdtrrxextStall v => exact ensures_inMode (stallDtrrxWrite_keepsRegister v s)
  | apbWrDbgdtrrxextFast v =>
    exact ensures_inMode
      (ensures_ite (ensures_untouched rfl rfl rfl) (ensures_ite (ensures_issued rfl rfl rfl) (ensures_refused _)))
  | apbRdDbgdtrtxextNonblocking => exact ensures_inMode (nonblockingDtrtxRead_keepsRegister s)
  | apbRdDbgdtrtxextStall => exact ensures_inMode (stallDtrtxRead_keepsRegister s)
  | apbRdDbgdtrtxextFast =>
    exact ensures_inMode
      (ensures_ite (ensures_untouched rfl rfl rfl) (ensures_ite (ensures_issued rfl rfl rfl) (ensures_refused _)))
  | apbWrDbgitrNonblocking v =>
    exact ensures_inMode
      (ensures_ite (ensures_untouched rfl rfl rfl)
        (ensures_ite (ensures_untouched rfl rfl rfl)
          (ensures_ite (ensures_refused _) (ensures_issued rfl rfl rfl))))
  | apbWrDbgitrStall v => exact ensures_inMode (stallItrWrite_keepsRegister v s)
  | apbWrDbgitrFast v =>
    exact ensures_inMode
      (ensures_ite (ensures_untouched rfl rfl rfl) (ensures_ite (ensures_refused _) (ensures_untouched rfl rfl rfl)))
  | mcrDbgdscrext | apbWrDbgdscrext | apbWrDbgdrcr => cases hi

/-! Rows that do. -/

theorem execMcrDbgdscrext_keepsStatus (rd : BitVec 4) (s : State) :
    Ensures (execMcrDbgdscrext rd s) (KeepsStatus s) := by
  refine ensures_cp14Access (raiseUndefined_keepsRegister s).toKeepsStatus ?_
  split
  · next t hw => exact ensures_next.mpr ((writeDscr_keepsStatus hw).trans (retire_keepsRegister t).toKeepsStatus)
  · exact ensures_refused _

theorem execApbWrDbgdscrext_keepsStatus (v : Word) (s : State) :
    Ensures (execApbWrDbgdscrext v s) (KeepsStatus s) := by
  unfold execApbWrDbgdscrext
  split
  · next t hw =>
    have hanswer : KeepsRegister t (answer (.ok none) t) := keepsRegister_of_untouched rfl rfl rfl
    exact ensures_next.mpr ((writeDscr_keepsStatus hw).trans hanswer.toKeepsStatus)
  · exact ensures_refused _

/-- Without its bit [2] a write of DBGDRCR clears no sticky exception bit (R135). -/
theorem execApbWrDbgdrcr_keepsStatus {v : Word} (s : State) (hv : v.getLsbD 2 = false) :
    Ensures (execApbWrDbgdrcr v s) (KeepsStatus s) := by
  have hkeep : drcrClearsSticky v = false := hv
  exact ensures_next.mpr ⟨tracks_of_untouched rfl rfl, by constructor <;> simp [hkeep]⟩

theorem exec_keepsStatus {i : Instr} (s : State) (hi : ∀ v, i = .apbWrDbgdrcr v → v.getLsbD 2 = false) :
    Ensures (exec i s) (KeepsStatus s) := by
  cases hw : writesRegister i with
  | false => exact fun t ht => (exec_keepsRegister s hw t ht).toKeepsStatus
  | true =>
    cases i with
    | mcrDbgdscrext rd => exact execMcrDbgdscrext_keepsStatus rd s
    | apbWrDbgdscrext v => exact execApbWrDbgdscrext_keepsStatus v s
    | apbWrDbgdrcr v => exact execApbWrDbgdrcr_keepsStatus s (hi v rfl)
    | _ => cases hw

/-- Every row, a write of DBGDRCR with bit [2] set among them, keeps the equality of (I4). -/
theorem exec_tracks (i : Instr) (s : State) :
    Ensures (exec i s) (fun t => ComplTracksIssue s → ComplTracksIssue t) := by
  cases i with
  | apbWrDbgdrcr v => exact ensures_next.mpr (tracks_of_untouched rfl rfl)
  | _ => exact fun t ht => (exec_keepsStatus s (by simp) t ht).tracks

/-! Events. -/

/-- The events that write MOE or give the register its reset values. -/
def writesMoe : Event → Bool
  | .enterDebugState _ | .debugException _ | .reset _ _ => true
  | _ => false

theorem happen_keepsRegister {e : Event} {s : State} (he : writesMoe e = false) (hen : enabled e s = true) :
    Ensures (happen e s) (KeepsRegister s) := by
  cases e with
  | readDtrRxInt rd => exact execMrcDbgdtrrxint_keepsRegister rd s
  | writeDtrTxInt rd => exact execMcrDbgdtrtxint_keepsRegister rd s
  | itrDone => exact ensures_next.mpr (itrDone_keepsRegister hen)
  | itrIdle =>
    simp only [enabled, Bool.and_eq_true, Bool.not_eq_true'] at hen
    exact ensures_next.mpr (itrIdle_keepsRegister hen.1.2)
  | undefinedInDebugState => exact ensures_next.mpr (undefinedInDebug_keepsRegister s)
  | syncDataAbortInDebugState => exact ensures_next.mpr (syncAbortInDebug_keepsRegister s)
  | asyncAbortInDebugState => exact ensures_next.mpr (asyncAbortInDebug_keepsRegister s)
  | interrupt line => exact ensures_next.mpr (takeException_keepsRegister _ s)
  | signalChange sig level => cases sig <;> exact ensures_untouched rfl rfl rfl
  | retire | restartRequest | exitDebugState | processorStatusChange => exact ensures_untouched rfl rfl rfl
  | enterDebugState | debugException | reset => cases he

theorem debugException_keepsStatus (c : Cause) (s : State) : KeepsStatus s (debugException c s) :=
  KeepsStatus.trans (t := { s with dscr := { s.dscr with moe := moeCode c } })
    ⟨tracks_of_untouched rfl rfl, ⟨id, id, id⟩⟩ (takeException_keepsRegister _ _).toKeepsStatus

/-- A reset of the processor alone keeps the register (R200, decision D24). -/
theorem reset_processor_dscr (p : Bool) (s : State) : (reset p false s).dscr = s.dscr := by
  cases p <;> rfl

theorem happen_keepsStatus {e : Event} {s : State} (he : ∀ p d, e ≠ .reset p d) (hen : enabled e s = true) :
    Ensures (happen e s) (KeepsStatus s) := by
  cases hw : writesMoe e with
  | false => exact fun t ht => (happen_keepsRegister hw hen t ht).toKeepsStatus
  | true =>
    cases e with
    | enterDebugState c => exact ensures_next.mpr ⟨tracks_of_untouched rfl rfl, ⟨id, id, id⟩⟩
    | debugException c => exact ensures_next.mpr (debugException_keepsStatus c s)
    | reset p d => exact absurd rfl (he p d)
    | _ => cases hw

/-- Only a reset of the register clears a sticky exception bit among the events. -/
theorem happen_keepsSticky {e : Event} {s : State} (he : ∀ p, e ≠ .reset p true) (hen : enabled e s = true) :
    Ensures (happen e s) (fun t => KeepsSticky s.dscr t.dscr) := by
  cases e with
  | reset p d =>
    cases d with
    | true => exact absurd rfl (he p)
    | false => exact ensures_next.mpr (keepsSticky_of_settings (by rw [reset_processor_dscr]))
  | _ => exact fun t ht => (happen_keepsStatus (by simp) hen t ht).sticky

/-- The codes with which the hardware writes MOE (R182). -/
theorem moeCode_mem (c : Cause) :
    moeCode c ∈ [0b0000#4, 0b0001#4, 0b0011#4, 0b0100#4, 0b0101#4, 0b1010#4] := by
  cases c <;> decide

/-- MOE is written by the events that report a cause and by a reset of the register. -/
theorem happen_moe {e : Event} {s : State} (hen : enabled e s = true) :
    Ensures (happen e s) (fun t => t.dscr.moe = s.dscr.moe ∨
      t.dscr.moe ∈ [0b0000#4, 0b0001#4, 0b0011#4, 0b0100#4, 0b0101#4, 0b1010#4]) := by
  cases hw : writesMoe e with
  | false => exact fun t ht => .inl (moe_of_sameControls (happen_keepsRegister hw hen t ht).controls)
  | true =>
    cases e with
    | enterDebugState c => exact ensures_next.mpr (.inr (moeCode_mem c))
    | debugException c =>
      refine ensures_next.mpr (.inr ?_)
      rw [debugException, takeException_eq]
      exact moeCode_mem c
    | reset p d =>
      refine ensures_next.mpr ?_
      cases d with
      | true => exact .inr (moeCode_mem .haltRequest)
      | false => exact .inl (by rw [reset_processor_dscr])
    | _ => cases hw

/-! The steps. -/

/-- Settles O55: a row or a stalled access leaves both alone, ends the issued instruction or issues one, and so does
every event but a reset. -/
theorem instrComplTracksExecution : Obligations.InstrComplTracksExecution := by
  intro s t hs hstep hreset
  cases step_ran hstep with
  | instruction _ i g u _ _ hrun ht =>
    subst ht
    exact exec_tracks i _ u hrun hs
  | access _ i g u _ _ _ _ hrun ht =>
    subst ht
    exact exec_tracks i _ u hrun hs
  | retry p g u _ hrun ht =>
    subst ht
    exact (retryStalled_keepsRegister p _ u hrun).tracks hs
  | event e g u _ hnext hen hrun ht =>
    subst ht
    have he : ∀ p d, e ≠ .reset p d := by
      rintro p d rfl
      simp [hreset p d] at hnext
    exact (happen_keepsStatus he hen u hrun).tracks hs

/-- Settles O57: of the rows only the write of DBGDRCR clears a sticky exception bit, and of the events only a reset of
the register. -/
theorem onlyDrcrOrResetClearsStickyBits : Obligations.OnlyDrcrOrResetClearsStickyBits := by
  intro s t hstep
  rw [← keepsSticky_iff]
  cases step_ran hstep with
  | instruction w i g u hturn hdecode hrun ht =>
    subst ht
    have hi : ∀ v, i = .apbWrDbgdrcr v → v.getLsbD 2 = false := by
      obtain ⟨rd, rfl | rfl | rfl | rfl | rfl | rfl⟩ := decodeWord_ok hdecode <;> simp
    exact .inl (exec_keepsStatus _ hi u hrun).sticky
  | access a i g u hturn hstall haccess hdecode hrun ht =>
    subst ht
    by_cases hi : ∃ v, i = .apbWrDbgdrcr v ∧ v.getLsbD 2 = true
    · obtain ⟨v, rfl, hv⟩ := hi
      exact .inr (.inr ⟨a, v, hturn, hstall, haccess, hdecode, hv⟩)
    · have hi' : ∀ v, i = .apbWrDbgdrcr v → v.getLsbD 2 = false := by
        intro v hv
        by_contra hset
        exact hi ⟨v, hv, by simpa using hset⟩
      exact .inl (exec_keepsStatus _ hi' u hrun).sticky
  | retry p g u hturn hrun ht =>
    subst ht
    exact .inl (retryStalled_keepsRegister p _ u hrun).sticky
  | event e g u hturn hnext henabled hrun ht =>
    subst ht
    by_cases he : ∃ p, e = .reset p true
    · obtain ⟨p, rfl⟩ := he
      exact .inr (.inl ⟨p, hnext⟩)
    · have he' : ∀ p, e ≠ .reset p true := fun p hp => he ⟨p, hp⟩
      exact .inl (happen_keepsSticky he' henabled u hrun)

/-- In User mode the write of DBGDSCRext never runs: it is refused, or it takes the exception (R100). -/
theorem cp14Check_dbgdscrext_user {s : State} (h : s.cpu.mode = .user) : cp14Check s .dbgdscrext ≠ .permitted := by
  cases hd : s.dscr.udccdis <;> simp [cp14Check, h, hd]

theorem execMcrDbgdscrext_user {rd : BitVec 4} {s : State} (h : s.cpu.mode = .user) :
    Ensures (execMcrDbgdscrext rd s) (KeepsRegister s) := by
  intro t ht
  obtain ⟨-, ⟨hperm, -⟩ | ⟨-, rfl⟩⟩ := cp14Access_next ht
  · exact absurd hperm (cp14Check_dbgdscrext_user h)
  · exact raiseUndefined_keepsRegister s

/-- Settles O58: the only word that writes a control field is the write of DBGDSCRext. -/
theorem userModeCannotWriteControls : Obligations.UserModeCannotWriteControls := by
  intro s t hmode hhead hstep
  cases step_ran hstep with
  | instruction w i g u hturn hdecode hrun ht =>
    subst ht
    obtain ⟨rd, rfl | rfl | rfl | rfl | rfl | rfl⟩ := decodeWord_ok hdecode
    case inr.inr.inl => exact (execMcrDbgdscrext_user (s := { s with agenda := g }) hmode u hrun).controls
    all_goals exact (exec_keepsRegister _ rfl u hrun).controls
  | access _ _ _ _ hturn => simp [hhead] at hturn
  | retry _ _ _ hturn => simp [hhead] at hturn
  | event _ _ _ hturn => simp [hhead] at hturn

/-- Settles O59: what each event does to MOE. -/
theorem hardwareWritesOnlyDefinedMoeCodes : Obligations.HardwareWritesOnlyDefinedMoeCodes := by
  intro s t hhead hstep
  cases step_ran hstep with
  | event e g u hturn hnext henabled hrun ht =>
    subst ht
    exact happen_moe henabled u hrun
  | instruction _ _ _ _ hturn => simp [hhead] at hturn
  | access _ _ _ _ hturn => simp [hhead] at hturn
  | retry _ _ _ hturn => simp [hhead] at hturn

end Sys2Proof.Machine
end

section
/-!
SUPPORT. The statements of 20_memory.md and 30_encoding.md about encodings: the decoder and the encoder are inverse to
each other (R61, R82 to R84, R90). A word is its `Rd` field and the rest of its bits, an access is its direction, its
offset and its data; each half is settled once for all rows of its kind.
-/

namespace Sys2Proof

/-! Instruction words (R82). -/

/-- The mask of `fixedField` keeps every bit outside [15:12]. -/
theorem fixedField_mask_getLsbD :
    ∀ i < 32, (0xFFFF0FFF#32).getLsbD i = decide (i < 12 ∨ 16 ≤ i) := by
  decide

theorem getLsbD_fixedField (w : Word) {i : Nat} (hi : i < 12 ∨ 16 ≤ i) :
    (fixedField w).getLsbD i = w.getLsbD i := by
  by_cases h : i < 32
  · simp [fixedField, fixedField_mask_getLsbD i h, hi]
  · simp [BitVec.getLsbD_of_ge _ _ (Nat.not_lt.mp h)]

theorem getLsbD_rdField (w : Word) {i : Nat} (hlo : 12 ≤ i) (hhi : i < 16) :
    (rdField w).getLsbD (i - 12) = w.getLsbD i := by
  have hlt : i - 12 < 4 := by omega
  simp [rdField, hlt, Nat.add_sub_cancel' hlo]

/-- A word is determined by its `Rd` field and its other bits. -/
theorem word_ext {w x : Word} (hfixed : fixedField w = fixedField x) (hrd : rdField w = rdField x) : w = x := by
  refine BitVec.eq_of_getLsbD_eq fun i _ => ?_
  by_cases hi : i < 12 ∨ 16 ≤ i
  · rw [← getLsbD_fixedField w hi, hfixed, getLsbD_fixedField x hi]
  · have hlo : 12 ≤ i := by omega
    have hhi : i < 16 := by omega
    rw [← getLsbD_rdField w hlo hhi, hrd, getLsbD_rdField x hlo hhi]

@[simp] theorem rdField_encodeTuple (t : Cp14Tuple) (rd : BitVec 4) : rdField (encodeTuple t rd) = rd := by
  simp only [rdField, encodeTuple, Machine.extractLsb'_append_add (m := 4), Machine.extractLsb'_append_add (m := 1),
    Machine.extractLsb'_append_add (m := 3), BitVec.extractLsb'_append_eq_right (w' := 4)]

/-- The mask of `fixedField`, cut along the pieces of `encodeTuple`: it clears the `Rd` field and nothing else. -/
theorem fixedField_mask_eq :
    0xFFFF0FFF#32 =
      BitVec.allOnes 4 ++ BitVec.allOnes 4 ++ BitVec.allOnes 3 ++ BitVec.allOnes 1 ++ BitVec.allOnes 4 ++ 0#4
        ++ BitVec.allOnes 4 ++ BitVec.allOnes 3 ++ BitVec.allOnes 1 ++ BitVec.allOnes 4 := by
  decide

@[simp] theorem fixedField_encodeTuple (t : Cp14Tuple) (rd : BitVec 4) :
    fixedField (encodeTuple t rd) = encodeTuple t 0#4 := by
  rw [fixedField, fixedField_mask_eq, encodeTuple]
  iterate 9 rw [BitVec.and_append]
  simp only [BitVec.and_allOnes, BitVec.and_zero, encodeTuple]

/-- A word whose other bits are a tuple's is that tuple's word with the `Rd` it holds. -/
theorem encodeTuple_rdField {t : Cp14Tuple} {w : Word} (h : fixedField w = encodeTuple t 0#4) :
    encodeTuple t (rdField w) = w :=
  word_ext (by rw [fixedField_encodeTuple, h]) (rdField_encodeTuple t _)

/-! The keys of `decodeWord` are the words of the six tuples at `Rd` = 0 (R81 to R83, R85). -/

@[simp] theorem encodeTuple_mrcDscrInt_zero : encodeTuple mrcDscrIntTuple 0#4 = 0xEE100E11#32 := rfl
@[simp] theorem encodeTuple_mrcDscrExt_zero : encodeTuple mrcDscrExtTuple 0#4 = 0xEE100E52#32 := rfl
@[simp] theorem encodeTuple_mcrDscrExt_zero : encodeTuple mcrDscrExtTuple 0#4 = 0xEE000E52#32 := rfl
@[simp] theorem encodeTuple_mcrDscrInt_zero : encodeTuple mcrDscrIntTuple 0#4 = 0xEE000E11#32 := rfl
@[simp] theorem encodeTuple_mrcDtrRx_zero : encodeTuple mrcDtrRxTuple 0#4 = 0xEE100E15#32 := rfl
@[simp] theorem encodeTuple_mcrDtrTx_zero : encodeTuple mcrDtrTxTuple 0#4 = 0xEE000E15#32 := rfl

/-! What an encodable instruction meets. -/

section
variable {p : Config.Params} {m : BitVec 2} {i : Instr}

theorem encodable_iff : i.encodable p m = true ↔
    i.wf = true ∧ (i.isDtrInt = true → p.decodeDtrInt = true) ∧ ∀ d, i.dccMode = some d → m = d.code := by
  cases hd : i.dccMode <;> cases ht : i.isDtrInt <;> simp [Instr.encodable, hd, ht, and_assoc]

/-- A row that no mode selects, the DTR accesses among them. -/
theorem encodable_of_dccMode_none (hd : i.dccMode = none) (hwf : i.wf = true)
    (ht : i.isDtrInt = true → p.decodeDtrInt = true) : i.encodable p m = true :=
  encodable_iff.mpr ⟨hwf, ht, by simp [hd]⟩

/-- A row that a mode selects puts no condition on its operands (R84). -/
theorem encodable_of_dccMode_some {d : DccMode} (hd : i.dccMode = some d) (hwf : i.wf = true)
    (ht : i.isDtrInt = false) (hm : dccModeOf m = some d) : i.encodable p m = true :=
  encodable_iff.mpr ⟨hwf, by simp [ht], by simpa [hd] using Machine.dccModeOf_eq_some.mp hm⟩

end

/-- What decodes to an instruction is its word: each branch of the decoder fixes a tuple and reads `Rd`. -/
theorem decodeWord_sound {p : Config.Params} {w : Word} {i : Instr} (m : BitVec 2) (h : decodeWord p w = .ok i) :
    i.encodable p m = true ∧ encode p i = .word w := by
  simp only [decodeWord] at h
  (repeat' split at h) <;> cases h
  all_goals
    refine ⟨encodable_of_dccMode_none rfl ?_ ?_, congrArg Encoding.word (encodeTuple_rdField (by assumption))⟩
    all_goals simp_all [Instr.wf, Instr.isDtrInt]

/-- The word of an encodable CP14 row decodes to it: its key is its tuple's and its `Rd` is not 15. -/
theorem decodeWord_complete {p : Config.Params} {m : BitVec 2} {i : Instr} {w : Word} (hi : i.encodable p m = true)
    (hw : encode p i = .word w) : decodeWord p w = .ok i := by
  obtain ⟨hwf, hdtr, -⟩ := encodable_iff.mp hi
  cases i with
  | mrcDbgdscrint rd | mrcDbgdscrext rd | mcrDbgdscrext rd =>
    cases hw
    have hrd : rd ≠ 15#4 := by simpa [Instr.wf] using hwf
    simp [decodeWord, hrd]
  | mcrDbgdscrintRefused rd =>
    cases hw
    simp [decodeWord]
  | mrcDbgdtrrxint rd | mcrDbgdtrtxint rd =>
    cases hw
    have hrd : rd ≠ 15#4 := by simpa [Instr.wf] using hwf
    simp [decodeWord, hrd, hdtr rfl]
  | _ => cases hw

/-! Accesses (R61 to R64, R84). -/

/-- What D6 asks of the four offsets. -/
structure OffsetsSeparate (p : Config.Params) : Prop where
  dtrrx_ne_dscr : p.offDtrrx ≠ Config.dscrOffset
  itr_ne_dscr : p.offItr ≠ Config.dscrOffset
  itr_ne_dtrrx : p.offItr ≠ p.offDtrrx
  dtrtx_ne_dscr : p.offDtrtx ≠ Config.dscrOffset
  drcr_ne_dscr : p.offDrcr ≠ Config.dscrOffset
  drcr_ne_dtrrx : p.offDrcr ≠ p.offDtrrx
  drcr_ne_itr : p.offDrcr ≠ p.offItr
  dtrrx_aligned : p.offDtrrx % 4 = 0
  itr_aligned : p.offItr % 4 = 0
  dtrtx_aligned : p.offDtrtx % 4 = 0
  drcr_aligned : p.offDrcr % 4 = 0

theorem Config.Params.offsetsSeparate {p : Config.Params} (h : p.wf = true) : OffsetsSeparate p := by
  simp only [Config.Params.wf, Bool.and_eq_true, decide_eq_true_eq, List.nodup_cons, List.mem_cons, not_or,
    List.all_cons] at h
  constructor <;> omega

section
variable {p : Config.Params} {m : BitVec 2} {off : Nat}

/-- An aligned word access at an offset is decoded by the offset alone. -/
theorem decodeAccess_at (hoff : off % 4 = 0) (dir : Direction) (v : Word) :
    decodeAccess p m { dir := dir, size := .word, addr := p.dbgBase + off, data := v } =
      decodeOffset p m dir off v := by
  simp [decodeAccess, hoff]

theorem decode_readAt_dscr : decode p m (readAt p Config.dscrOffset) = .ok .apbRdDbgdscrext :=
  decodeAccess_at rfl .read _

theorem decode_writeAt_dscr (v : Word) : decode p m (writeAt p Config.dscrOffset v) = .ok (.apbWrDbgdscrext v) :=
  decodeAccess_at rfl .write v

variable (hp : OffsetsSeparate p)
include hp

theorem decode_readAt_dtrtx : decode p m (readAt p p.offDtrtx) = dtrtxReadIn m :=
  (decodeAccess_at hp.dtrtx_aligned .read _).trans (by simp [decodeOffset, hp.dtrtx_ne_dscr])

theorem decode_writeAt_dtrrx (v : Word) : decode p m (writeAt p p.offDtrrx v) = dtrrxWriteIn m v :=
  (decodeAccess_at hp.dtrrx_aligned .write v).trans (by simp [decodeOffset, hp.dtrrx_ne_dscr])

theorem decode_writeAt_itr (v : Word) : decode p m (writeAt p p.offItr v) = itrWriteIn m v :=
  (decodeAccess_at hp.itr_aligned .write v).trans (by simp [decodeOffset, hp.itr_ne_dscr, hp.itr_ne_dtrrx])

theorem decode_writeAt_drcr (v : Word) : decode p m (writeAt p p.offDrcr v) = .ok (.apbWrDbgdrcr v) :=
  (decodeAccess_at hp.drcr_aligned .write v).trans
    (by simp [decodeOffset, hp.drcr_ne_dscr, hp.drcr_ne_dtrrx, hp.drcr_ne_itr])

end

section
variable {p : Config.Params} {m : BitVec 2} {i : Instr}

/-! The rows a mode selects: each is encoded at the offset of its register. -/

theorem dtrrxWriteIn_sound {v : Word} (h : dtrrxWriteIn m v = .ok i) :
    i.encodable p m = true ∧ encode p i = writeAt p p.offDtrrx v := by
  unfold dtrrxWriteIn at h
  split at h <;> cases h <;> exact ⟨encodable_of_dccMode_some rfl rfl rfl (by assumption), rfl⟩

theorem dtrtxReadIn_sound (h : dtrtxReadIn m = .ok i) :
    i.encodable p m = true ∧ encode p i = readAt p p.offDtrtx := by
  unfold dtrtxReadIn at h
  split at h <;> cases h <;> exact ⟨encodable_of_dccMode_some rfl rfl rfl (by assumption), rfl⟩

theorem itrWriteIn_sound {v : Word} (h : itrWriteIn m v = .ok i) :
    i.encodable p m = true ∧ encode p i = writeAt p p.offItr v := by
  unfold itrWriteIn at h
  split at h <;> cases h <;> exact ⟨encodable_of_dccMode_some rfl rfl rfl (by assumption), rfl⟩

/-- What an offset decodes to is encoded at that offset. -/
theorem decodeOffset_read_sound {off : Nat} {v : Word} (h : decodeOffset p m .read off v = .ok i) :
    i.encodable p m = true ∧ encode p i = readAt p off := by
  simp only [decodeOffset] at h
  split at h
  case isTrue hoff =>
    cases h
    exact ⟨encodable_of_dccMode_none rfl rfl nofun, hoff ▸ rfl⟩
  case isFalse =>
    split at h
    case isTrue hoff => exact hoff ▸ dtrtxReadIn_sound h
    case isFalse => cases h

@[inherit_doc decodeOffset_read_sound]
theorem decodeOffset_write_sound {off : Nat} {v : Word} (h : decodeOffset p m .write off v = .ok i) :
    i.encodable p m = true ∧ encode p i = writeAt p off v := by
  simp only [decodeOffset] at h
  split_ifs at h with hdscr hdtrrx hitr hdrcr
  · cases h
    exact ⟨encodable_of_dccMode_none rfl rfl nofun, hdscr ▸ rfl⟩
  · exact hdtrrx ▸ dtrrxWriteIn_sound h
  · exact hitr ▸ itrWriteIn_sound h
  · cases h
    exact ⟨encodable_of_dccMode_none rfl rfl nofun, hdrcr ▸ rfl⟩

/-- What an access decodes to is that access, but for the data of a read. -/
theorem decodeAccess_sound {a : Access} (h : decodeAccess p m a = .ok i) :
    i.encodable p m = true ∧
      encode p i = .access { a with data := if a.dir = .read then 0#32 else a.data } := by
  obtain ⟨hsize, hbase, -, hoff⟩ := Machine.decodeAccess_ok h
  have haddr : p.dbgBase + (a.addr - p.dbgBase) = a.addr := Nat.add_sub_cancel' hbase
  obtain ⟨dir, size, addr, data⟩ := a
  subst hsize
  cases dir with
  | read => simpa [readAt, haddr] using decodeOffset_read_sound hoff
  | write => simpa [writeAt, haddr] using decodeOffset_write_sound hoff

/-- The access of an encodable row decodes to it: D6 keeps the offsets apart, and the mode is the row's. -/
theorem decodeAccess_complete {a : Access} (hp : OffsetsSeparate p) (hi : i.encodable p m = true)
    (ha : encode p i = .access a) : decodeAccess p m a = .ok i := by
  obtain ⟨-, -, hmode⟩ := encodable_iff.mp hi
  have hdecode : decode p m (encode p i) = decodeAccess p m a := congrArg _ ha
  rw [← hdecode]
  cases i with
  | apbRdDbgdscrext => exact decode_readAt_dscr
  | apbWrDbgdscrext v => exact decode_writeAt_dscr v
  | apbWrDbgdrcr v => exact decode_writeAt_drcr hp v
  | apbWrDbgdtrrxextNonblocking v | apbWrDbgdtrrxextStall v | apbWrDbgdtrrxextFast v =>
    obtain rfl := hmode _ rfl
    exact decode_writeAt_dtrrx hp v
  | apbRdDbgdtrtxextNonblocking | apbRdDbgdtrtxextStall | apbRdDbgdtrtxextFast =>
    obtain rfl := hmode _ rfl
    exact decode_readAt_dtrtx hp
  | apbWrDbgitrNonblocking v | apbWrDbgitrStall v | apbWrDbgitrFast v =>
    obtain rfl := hmode _ rfl
    exact decode_writeAt_itr hp v
  | _ => cases ha

end

/-- Settles O50: an instruction is encoded as a word or as an access, and each decoder undoes its half. -/
theorem decodeEncodeAgree : Obligations.DecodeEncodeAgree := by
  intro p m i hp hi
  cases he : encode p i with
  | word w => exact decodeWord_complete hi he
  | access a => exact decodeAccess_complete (Config.Params.offsetsSeparate hp) hi he

/-- Settles O51: the decoder of words fixes every bit but `Rd`, the decoder of accesses all but the data of a read. -/
theorem encodeDecodeAgree : Obligations.EncodeDecodeAgree := by
  intro p m e i h
  cases e with
  | word w => exact decodeWord_sound m h
  | access a => exact decodeAccess_sound h

end Sys2Proof
end

section
/-!
SUPPORT. The statements of 20_memory.md about a step: what the decoder rejects is refused (R63, R90), and a Stall-mode
access is held until it completes (R71, R123).
-/

namespace Sys2Proof.Machine

/-! Rejections. -/

theorem processorTurn_of_reject {s t : State} {w : Word} {e : DecodeError} (hf : fetchWord s = some (w, t))
    (hd : decodeWord t.params w = .error e) : processorTurn s = .refused (refusalOf e) := by
  simp only [processorTurn, hf, hd]

theorem debuggerTurn_of_reject {s : State} {a : Access} {more : List Access} {e : DecodeError}
    (hp : s.stalledAccess = none) (ha : s.agenda.accesses = a :: more)
    (hd : decodeAccess s.params s.dscr.extdccmode a = .error e) : debuggerTurn s = .refused (refusalOf e) := by
  simp only [debuggerTurn, hp, ha, hd]

/-- A narrow access, or one misaligned inside the interface, is not supported (R63). -/
theorem decodeAccess_unsupported {p : Config.Params} {a : Access} (m : BitVec 2)
    (h : a.size ≠ .word ∨ p.dbgBase ≤ a.addr ∧ (a.addr - p.dbgBase) % 4 ≠ 0) :
    decodeAccess p m a = .error .unsupportedApbAccess := by
  unfold decodeAccess
  by_cases hsize : a.size = .word
  · obtain ⟨hbase, halign⟩ := h.resolve_left (not_not.mpr hsize)
    rw [if_neg (not_not.mpr hsize), if_neg (Nat.not_lt.mpr hbase), if_pos halign]
  · rw [if_pos hsize]

/-- Settles O47: each turn that decodes passes the rejection on. -/
theorem rejectedInputIsRefused : Obligations.RejectedInputIsRefused := by
  intro s rest
  refine ⟨fun w e hs hd => ?word, fun a more e hs hp ha hd => ?access, fun a m h => decodeAccess_unsupported m h⟩
  case word =>
    rw [step_of_schedule hs]
    exact ⟨fun hi => processorTurn_of_reject (fetchWord_of_issued hi) hd,
      fun ws hi hn hw => processorTurn_of_reject (fetchWord_of_program hi hn hw) hd⟩
  case access =>
    rw [step_of_schedule hs]
    exact debuggerTurn_of_reject hp ha hd

/-! Stall-mode accesses: the equation of each branch (R125, R128, R131), and of the read that a reset answers (R127). -/

section
variable {s : State} (v : Word)

theorem stallDtrrxWrite_full (h : s.dscr.rxfull = true) :
    stallDtrrxWrite v s = .next (waitStalled (.dtrrxWrite v) s) := by
  simp [stallDtrrxWrite, h]

theorem stallDtrrxWrite_empty (h : s.dscr.rxfull = false) :
    stallDtrrxWrite v s = .next (answer (.ok none) (storeDtrrx v s)) := by
  simp [stallDtrrxWrite, h]

theorem stallDtrtxRead_empty (h : s.dscr.txfull = false) : stallDtrtxRead s = .next (waitStalled .dtrtxRead s) := by
  simp [stallDtrtxRead, h]

theorem stallDtrtxRead_full (h : s.dscr.txfull = true) :
    stallDtrtxRead s = .next (answer (.ok (some s.dcc.dtrtx)) (takeDtrtx s)) := by
  simp [stallDtrtxRead, h]

theorem stallItrWrite_aborted (h : s.dscr.sdabortL = true) : stallItrWrite v s = .next (answer (.ignored none) s) := by
  simp [stallItrWrite, h]

theorem stallItrWrite_busy (ha : s.dscr.sdabortL = false) (hc : s.dscr.instrcompl = false) :
    stallItrWrite v s = .next (waitStalled (.itrWrite v) s) := by
  simp [stallItrWrite, ha, hc]

theorem stallItrWrite_itren_clear (ha : s.dscr.sdabortL = false) (hc : s.dscr.instrcompl = true)
    (hi : s.dscr.itren = false) : stallItrWrite v s = .refused .itrWriteWithItrenClear := by
  simp [stallItrWrite, ha, hc, hi]

theorem stallItrWrite_ready (ha : s.dscr.sdabortL = false) (hc : s.dscr.instrcompl = true)
    (hi : s.dscr.itren = true) :
    stallItrWrite v s = .next (answer (.ok none) (issue v (clearInstrCompl (storeItr v s)))) := by
  simp [stallItrWrite, ha, hc, hi]

theorem nonblockingDtrtxRead_latch_clear (h : s.dscr.txfullL = false) :
    nonblockingDtrtxRead s = .next (answer (.ignored (some (drawnWord s 0))) (useDraws 1 s)) := by
  simp [nonblockingDtrtxRead, h]

/-- The data is free, and a free value is used, exactly when DBGDTRTX is empty. -/
theorem nonblockingDtrtxRead_latch_set (h : s.dscr.txfullL = true) :
    nonblockingDtrtxRead s = .next
      { s with
        dscr := { s.dscr with txfull := false, txfullL := false }
        apbResult := some (.ok (some (dtrtxData s)))
        draws := if s.dscr.txfull then s.draws else s.draws + 1 } := by
  cases hf : s.dscr.txfull <;> simp [nonblockingDtrtxRead, h, hf, answer, takeDtrtx, useDraws]

end

/-! The debugger's steps. -/

/-- The check of R162 in the words of the statements. -/
theorem checkItren_eq (s : State) :
    checkItren s =
      { s with
        faults := { s.faults with itrenOutsideDebugState :=
          s.faults.itrenOutsideDebugState || (s.dscr.itren && decide (s.cpu.dbg = .normal)) } } := by
  rw [checkItren, itrenOutsideDebugState_eq]

/-- The state in which the debugger's step tries its stalled access again. -/
def retryState (rest : List Agent) (s : State) : State :=
  { s with agenda := { s.agenda with schedule := rest }, stalledAccess := none }

section
variable {s : State} {rest : List Agent} {p : StalledAccess}

/-- While an access is held, a debugger step evaluates it and nothing else (R71, R123). -/
theorem step_of_held (hs : s.agenda.schedule = .debugger :: rest) (hp : s.stalledAccess = some p) :
    step s = mapNext checkItren (retryStalled p (retryState rest s)) := by
  rw [step_of_schedule hs, turn]
  simp only [debuggerTurn, hp, retryState]

/-- An access that completes is held no more: the step ends in the state its evaluation answers, checked. -/
theorem step_completes {t : State} (hs : s.agenda.schedule = .debugger :: rest) (hp : s.stalledAccess = some p)
    (ht : retryStalled p (retryState rest s) = .next t) : step s = .next (checkItren t) := by
  rw [step_of_held hs hp, ht, mapNext_next]

theorem step_refuses {r : Refusal} (hs : s.agenda.schedule = .debugger :: rest) (hp : s.stalledAccess = some p)
    (hr : retryStalled p (retryState rest s) = .refused r) : step s = .refused r := by
  rw [step_of_held hs hp, hr, mapNext_refused]

/-- An access that waits again is held as before. -/
theorem step_waits_again (hs : s.agenda.schedule = .debugger :: rest) (hp : s.stalledAccess = some p)
    (hw : retryStalled p (retryState rest s) = .next (waitStalled p (retryState rest s))) :
    step s = .next
      (checkItren { s with agenda := { s.agenda with schedule := rest }, apbResult := some .stalled }) := by
  rw [step_completes hs hp hw, waitStalled, ← hp]
  rfl

/-- A row of the Stall mode whose condition does not hold starts to wait (R125, R128, R131). -/
theorem exec_waits {i : Instr} (hmode : i.dccMode = some .stall → s.dscr.extdccmode = DccMode.stall.code)
    (h : (∃ v, i = .apbWrDbgdtrrxextStall v ∧ p = .dtrrxWrite v ∧ s.dscr.rxfull = true) ∨
      (i = .apbRdDbgdtrtxextStall ∧ p = .dtrtxRead ∧ s.dscr.txfull = false) ∨
      (∃ v, i = .apbWrDbgitrStall v ∧ p = .itrWrite v ∧ s.dscr.sdabortL = false ∧ s.dscr.instrcompl = false)) :
    exec i s = .next (waitStalled p s) := by
  obtain ⟨v, rfl, rfl, hr⟩ | ⟨rfl, rfl, ht⟩ | ⟨v, rfl, rfl, ha, hc⟩ := h
  · exact (inMode_selected (hmode rfl)).trans (stallDtrrxWrite_full v hr)
  · exact (inMode_selected (hmode rfl)).trans (stallDtrtxRead_empty ht)
  · exact (inMode_selected (hmode rfl)).trans (stallItrWrite_busy v ha hc)

end

/-- Settles O45: the row of a new access starts to wait; a held one is evaluated by its own rule, whose branches are
the cases of the statement. -/
theorem stalledAccessIsHeldUntilItsCondition : Obligations.StalledAccessIsHeldUntilItsCondition := by
  intro s rest hs checked u
  refine ⟨fun a more i p hp ha hd hwait => ?starts, fun v hp => ?dtrrxWrite, fun hp => ?dtrtxRead,
    fun hp => ?readEnded, fun v hp => ⟨fun hab => ?aborted, fun hab hc => ?busy,
      fun hab hc hi => ?refused, fun hab hc hi => ?ready⟩⟩
  case starts =>
    obtain ⟨-, -, -, hoff⟩ := decodeAccess_ok hd
    have hmode : i.dccMode = some .stall → s.dscr.extdccmode = DccMode.stall.code := decodeOffset_dccMode hoff
    rw [debuggerStepRunsDecodedAccess s rest a more i hs hp ha hd,
      exec_waits (s := { s with agenda := { s.agenda with schedule := rest, accesses := more } }) hmode hwait,
      mapNext_next, checkItren_eq]
    rfl
  case dtrrxWrite =>
    cases hr : s.dscr.rxfull with
    | true => rw [step_waits_again hs hp (stallDtrrxWrite_full v hr), checkItren_eq]; rfl
    | false => rw [step_completes hs hp (stallDtrrxWrite_empty v hr), checkItren_eq]; rfl
  case dtrtxRead =>
    cases ht : s.dscr.txfull with
    | true => rw [step_completes hs hp (stallDtrtxRead_full ht), checkItren_eq]; rfl
    | false => rw [step_waits_again hs hp (stallDtrtxRead_empty ht), checkItren_eq]; rfl
  case readEnded =>
    cases hl : s.dscr.txfullL with
    | true =>
      refine ⟨dtrtxData s, if s.dscr.txfull then s.draws else s.draws + 1, fun _ hf => by simp [dtrtxData, hf], ?_⟩
      rw [step_completes hs hp (nonblockingDtrtxRead_latch_set hl), checkItren_eq]
      rfl
    | false =>
      refine ⟨drawnWord s 0, s.draws + 1, nofun, ?_⟩
      rw [step_completes hs hp (nonblockingDtrtxRead_latch_clear hl), checkItren_eq]
      rfl
  case aborted => rw [step_completes hs hp (stallItrWrite_aborted v hab), checkItren_eq]; rfl
  case busy => rw [step_waits_again hs hp (stallItrWrite_busy v hab hc), checkItren_eq]
  case refused => exact step_refuses hs hp (stallItrWrite_itren_clear v hab hc hi)
  case ready => rw [step_completes hs hp (stallItrWrite_ready v hab hc hi), checkItren_eq]; rfl

end Sys2Proof.Machine
end

section
/-!
SUPPORT. The statement of 30_encoding.md about the handshake: every step keeps its invariant (R87, R122). An update
outside the flags, ExtDCCmode and the issued word does not touch the invariant; the few operations that write one of
them each keep it.
-/

namespace Sys2Proof.Machine

/-! The handshake invariant of one state. -/

theorem handshake_iff {s : State} : handshake s = true ↔
    (s.dscr.rxfull = true → s.dscr.rxfullL = true) ∧ (s.dscr.instrcomplL = true → s.dscr.instrcompl = true) ∧
      (s.dscr.instrcompl = true → itrBusy s = false) ∧ s.dscr.extdccmode ≠ 0b11#2 := by
  simp [handshake, rxLatchSound, instrLatchSound, complMeansIdle, modeLegal, ← Bool.not_eq_true, imp_iff_not_or,
    and_assoc]

/-- The check of R162 writes a recorded fault only. -/
@[simp] theorem handshake_checkItren (s : State) : handshake (checkItren s) = handshake s := rfl

section
variable {s : State}

/-- The end of an issued instruction sets InstrCompl and leaves none executing (R151). -/
theorem handshake_endIssued (h : handshake s = true) : handshake (endIssued s) = true := by
  obtain ⟨hrx, hlatch, -, hmode⟩ := handshake_iff.mp h
  rw [endIssued_eq]
  exact handshake_iff.mpr ⟨hrx, fun hl => by simp [hlatch hl], fun _ => rfl, hmode⟩

/-- A retirement and an Undefined instruction exception are such an end, as far as the handshake sees them (R107,
R180). -/
theorem handshake_retire (h : handshake s = true) : handshake (retire s) = true := by
  rw [retire_eq]
  have hend := handshake_endIssued h
  rwa [endIssued_eq] at hend

@[inherit_doc handshake_retire]
theorem handshake_raiseUndefined (h : handshake s = true) : handshake (raiseUndefined s) = true := by
  rw [raiseUndefined_eq]
  have hend := handshake_endIssued h
  rwa [endIssued_eq] at hend

theorem handshake_takeException (e : Exception) (h : handshake s = true) : handshake (takeException e s) = true := by
  rwa [takeException_eq]

/-- `ItrDone` is delivered only while an issued instruction is executing (R151). -/
theorem handshake_itrDone (hbusy : itrBusy s = true) (h : handshake s = true) : handshake (itrDone s) = true := by
  have hend := handshake_endIssued h
  rwa [endIssued, if_pos hbusy] at hend

/-- `ItrIdle` is delivered only while nothing executes (R152). -/
theorem handshake_itrIdle (hbusy : itrBusy s = false) (h : handshake s = true) : handshake (itrIdle s) = true := by
  obtain ⟨hrx, -, -, hmode⟩ := handshake_iff.mp h
  exact handshake_iff.mpr ⟨hrx, fun _ => rfl, fun _ => hbusy, hmode⟩

/-- A successful write of DBGDTRRXext sets RXfull and its latch (R122). -/
theorem handshake_storeDtrrx (v : Word) (h : handshake s = true) : handshake (storeDtrrx v s) = true := by
  obtain ⟨-, hlatch, hidle, hmode⟩ := handshake_iff.mp h
  exact handshake_iff.mpr ⟨fun _ => rfl, hlatch, hidle, hmode⟩

/-- The processor's read of DBGDTRRXint clears RXfull (R104). -/
theorem handshake_clearRxfull (h : handshake s = true) :
    handshake { s with dscr := { s.dscr with rxfull := false } } = true := by
  obtain ⟨-, hlatch, hidle, hmode⟩ := handshake_iff.mp h
  exact handshake_iff.mpr ⟨nofun, hlatch, hidle, hmode⟩

/-- The latches take the values of their flags (R120). -/
theorem handshake_copyLatches (h : handshake s = true) : handshake (copyLatches s) = true := by
  obtain ⟨-, -, hidle, hmode⟩ := handshake_iff.mp h
  exact handshake_iff.mpr ⟨id, id, hidle, hmode⟩

/-- An access that issues an instruction clears InstrCompl and its latch (R19, R20, R134). -/
theorem handshake_issue (w : Word) (h : handshake s = true) : handshake (issue w (clearInstrCompl s)) = true := by
  obtain ⟨hrx, -, -, hmode⟩ := handshake_iff.mp h
  exact handshake_iff.mpr ⟨hrx, nofun, nofun, hmode⟩

/-- A write of DBGDSCRext that succeeds does not write the mode b11 (R42). -/
theorem handshake_writeDscr {v : Word} {t : State} (hw : writeDscr v s = .ok t) (h : handshake s = true) :
    handshake t = true := by
  obtain ⟨hmode, rfl⟩ := writeDscr_ok hw
  obtain ⟨hrx, hlatch, hidle, -⟩ := handshake_iff.mp h
  exact handshake_iff.mpr ⟨hrx, hlatch, hidle, hmode⟩

/-- A reset of the processor leaves nothing executing (R200). -/
theorem handshake_resetProcessor (h : handshake s = true) : handshake (resetProcessor s) = true := by
  obtain ⟨hrx, hlatch, -, hmode⟩ := handshake_iff.mp h
  exact handshake_iff.mpr ⟨hrx, hlatch, fun _ => rfl, hmode⟩

/-- A reset of the register establishes the invariant: RXfull, InstrCompl, its latch and the mode are 0 (R200). -/
theorem handshake_resetDebug (s : State) : handshake (resetDebug s) = true :=
  have hmode : 0b00#2 ≠ 0b11#2 := by decide
  handshake_iff.mpr ⟨nofun, nofun, nofun, hmode⟩

theorem handshake_reset (p d : Bool) (h : handshake s = true) : handshake (reset p d s) = true := by
  have hproc : handshake (if p then resetProcessor s else s) = true := by
    split
    · exact handshake_resetProcessor h
    · exact h
  rw [reset, handshake_checkItren]
  split
  · exact handshake_resetDebug _
  · exact hproc

end

/-! Accesses and events. -/

/-- The outcome's next state, if any, meets the handshake invariant. -/
abbrev EnsuresHandshake (o : Outcome) : Prop := Ensures o (fun t => handshake t = true)

section
variable {s : State} (h : handshake s = true)
include h

theorem stallDtrrxWrite_handshake (v : Word) : EnsuresHandshake (stallDtrrxWrite v s) := by
  intro t ht
  obtain ⟨-, rfl⟩ | ⟨-, rfl⟩ := stallDtrrxWrite_next ht
  · exact h
  · exact handshake_storeDtrrx v h

theorem stallDtrtxRead_handshake : EnsuresHandshake (stallDtrtxRead s) := by
  intro t ht
  obtain ⟨-, rfl⟩ | ⟨-, rfl⟩ := stallDtrtxRead_next ht <;> exact h

theorem nonblockingDtrtxRead_handshake : EnsuresHandshake (nonblockingDtrtxRead s) := by
  intro t ht
  obtain ⟨-, rfl⟩ | ⟨-, -, rfl⟩ | ⟨-, -, rfl⟩ := nonblockingDtrtxRead_next ht <;> exact h

theorem stallItrWrite_handshake (v : Word) : EnsuresHandshake (stallItrWrite v s) := by
  intro t ht
  obtain ⟨-, rfl⟩ | ⟨-, -, rfl⟩ | ⟨-, -, -, rfl⟩ := stallItrWrite_next ht
  · exact h
  · exact h
  · exact handshake_issue v (s := storeItr v s) h

theorem retryStalled_handshake (p : StalledAccess) : EnsuresHandshake (retryStalled p s) := by
  cases p with
  | dtrrxWrite v => exact stallDtrrxWrite_handshake h v
  | dtrtxRead => exact stallDtrtxRead_handshake h
  | dtrtxReadEnded => exact nonblockingDtrtxRead_handshake h
  | itrWrite v => exact stallItrWrite_handshake h v

theorem cp14Access_handshake {r : Cp14Reg} {rd : BitVec 4} {k : State → Outcome} (hk : EnsuresHandshake (k s)) :
    EnsuresHandshake (cp14Access r rd k s) :=
  ensures_cp14Access (handshake_raiseUndefined h) hk

theorem execMrcDbgdscrint_handshake (rd : BitVec 4) : EnsuresHandshake (execMrcDbgdscrint rd s) := by
  refine cp14Access_handshake h (ensures_next.mpr (handshake_retire ?_))
  exact h

theorem execMrcDbgdscrext_handshake (rd : BitVec 4) : EnsuresHandshake (execMrcDbgdscrext rd s) := by
  refine cp14Access_handshake h (ensures_next.mpr (handshake_retire ?_))
  split
  · exact handshake_copyLatches (s := useDraws 1 (writeReg rd _ s)) h
  · exact h

theorem execMcrDbgdscrext_handshake (rd : BitVec 4) : EnsuresHandshake (execMcrDbgdscrext rd s) := by
  refine cp14Access_handshake h ?_
  split
  · next t hw => exact ensures_next.mpr (handshake_retire (handshake_writeDscr hw h))
  · exact ensures_refused _

theorem execMcrDbgdscrintRefused_handshake (rd : BitVec 4) : EnsuresHandshake (execMcrDbgdscrintRefused rd s) := by
  unfold execMcrDbgdscrintRefused
  split
  · exact ensures_refused _
  · exact ensures_next.mpr (handshake_raiseUndefined h)

theorem execMrcDbgdtrrxint_handshake (rd : BitVec 4) : EnsuresHandshake (execMrcDbgdtrrxint rd s) := by
  refine cp14Access_handshake h (ensures_next.mpr (handshake_retire (handshake_clearRxfull ?_)))
  split <;> exact h

theorem execMcrDbgdtrtxint_handshake (rd : BitVec 4) : EnsuresHandshake (execMcrDbgdtrtxint rd s) :=
  cp14Access_handshake h
    (ensures_ite (ensures_next.mpr (handshake_retire h)) (ensures_next.mpr (handshake_retire h)))

theorem execApbRdDbgdscrext_handshake : EnsuresHandshake (execApbRdDbgdscrext s) := by
  refine ensures_next.mpr (handshake_copyLatches ?_)
  split <;> exact h

theorem execApbWrDbgdscrext_handshake (v : Word) : EnsuresHandshake (execApbWrDbgdscrext v s) := by
  unfold execApbWrDbgdscrext
  split
  · next t hw =>
    have ht : handshake t = true := handshake_writeDscr hw h
    exact ensures_next.mpr ht
  · exact ensures_refused _

theorem exec_handshake (i : Instr) : EnsuresHandshake (exec i s) := by
  cases i with
  | mrcDbgdscrint rd => exact execMrcDbgdscrint_handshake h rd
  | mrcDbgdscrext rd => exact execMrcDbgdscrext_handshake h rd
  | mcrDbgdscrext rd => exact execMcrDbgdscrext_handshake h rd
  | mcrDbgdscrintRefused rd => exact execMcrDbgdscrintRefused_handshake h rd
  | mrcDbgdtrrxint rd => exact execMrcDbgdtrrxint_handshake h rd
  | mcrDbgdtrtxint rd => exact execMcrDbgdtrtxint_handshake h rd
  | apbRdDbgdscrext => exact execApbRdDbgdscrext_handshake h
  | apbWrDbgdscrext v => exact execApbWrDbgdscrext_handshake h v
  | apbWrDbgdtrrxextNonblocking v =>
    exact ensures_inMode (ensures_ite (ensures_next.mpr h) (ensures_next.mpr (handshake_storeDtrrx v h)))
  | apbWrDbgdtrrxextStall v => exact ensures_inMode (stallDtrrxWrite_handshake h v)
  | apbWrDbgdtrrxextFast v =>
    exact ensures_inMode
      (ensures_ite (ensures_next.mpr h)
        (ensures_ite (ensures_next.mpr (handshake_issue _ (handshake_storeDtrrx v h))) (ensures_refused _)))
  | apbRdDbgdtrtxextNonblocking => exact ensures_inMode (nonblockingDtrtxRead_handshake h)
  | apbRdDbgdtrtxextStall => exact ensures_inMode (stallDtrtxRead_handshake h)
  | apbRdDbgdtrtxextFast =>
    exact ensures_inMode
      (ensures_ite (ensures_next.mpr h)
        (ensures_ite (ensures_next.mpr (handshake_issue _ (s := takeDtrtx s) h)) (ensures_refused _)))
  | apbWrDbgitrNonblocking v =>
    exact ensures_inMode
      (ensures_ite (ensures_next.mpr h)
        (ensures_ite (ensures_next.mpr h)
          (ensures_ite (ensures_refused _) (ensures_next.mpr (handshake_issue v (s := storeItr v s) h)))))
  | apbWrDbgitrStall v => exact ensures_inMode (stallItrWrite_handshake h v)
  | apbWrDbgitrFast v =>
    exact ensures_inMode
      (ensures_ite (ensures_next.mpr h) (ensures_ite (ensures_refused _) (ensures_next.mpr h)))
  | apbWrDbgdrcr v => exact ensures_next.mpr h

theorem happen_handshake {e : Event} (hen : enabled e s = true) : EnsuresHandshake (happen e s) := by
  cases e with
  | readDtrRxInt rd => exact execMrcDbgdtrrxint_handshake h rd
  | writeDtrTxInt rd => exact execMcrDbgdtrtxint_handshake h rd
  | itrDone => exact ensures_next.mpr (handshake_itrDone hen h)
  | itrIdle =>
    simp only [enabled, Bool.and_eq_true, Bool.not_eq_true'] at hen
    obtain ⟨⟨-, hbusy⟩, -⟩ := hen
    exact ensures_next.mpr (handshake_itrIdle hbusy h)
  | undefinedInDebugState | syncDataAbortInDebugState => exact ensures_next.mpr (handshake_endIssued h)
  | debugException | interrupt => exact ensures_next.mpr (handshake_takeException _ h)
  | signalChange sig level => cases sig <;> exact ensures_next.mpr h
  | reset p d => exact ensures_next.mpr (handshake_reset p d h)
  | retire | enterDebugState | restartRequest | exitDebugState | asyncAbortInDebugState | processorStatusChange =>
    exact ensures_next.mpr h

end

/-! Steps. -/

/-- Settles O53: rows, stalled accesses and enabled events keep the invariant, and the check of R162 does not see it. -/
theorem everyStepKeepsHandshake : Obligations.EveryStepKeepsHandshake := by
  intro s t h hstep
  cases step_ran hstep with
  | instruction _ i g u _ _ hrun ht =>
    subst ht
    exact exec_handshake (s := { s with agenda := g }) h i u hrun
  | access _ i g u _ _ _ _ hrun ht =>
    subst ht
    exact exec_handshake (s := { s with agenda := g }) h i u hrun
  | retry p g u _ hrun ht =>
    subst ht
    exact retryStalled_handshake (s := { s with agenda := g, stalledAccess := none }) h p u hrun
  | event e g u _ _ henabled hrun ht =>
    subst ht
    exact happen_handshake (s := { s with agenda := g }) h henabled u hrun

end Sys2Proof.Machine
end

section
/-!
SUPPORT. The statements of 30_encoding.md about words and accesses: the printed words (R82, R83), where a table word is
placed (R90), the refusals of the CP14 rows (R85, R86, R100), the DTR accesses without a word (R83) and the mode an
access is made in (R84, R122).
-/

namespace Sys2Proof.Machine

/-! Printed words and table words. -/

/-- Settles O49: six words are the encodings of their instructions, and the decoder undoes the encoder; the other two
are rejected for a parameter and for their `Rd`. -/
theorem printedWordsDecode : Obligations.PrintedWordsDecode :=
  ⟨decodeWord_complete (m := 0b00#2) (i := .mrcDbgdscrint 1#4) rfl rfl,
    decodeWord_complete (m := 0b00#2) (i := .mrcDbgdscrext 14#4) rfl rfl,
    decodeWord_complete (m := 0b00#2) (i := .mcrDbgdscrext 7#4) rfl rfl,
    decodeWord_complete (m := 0b00#2) (i := .mcrDbgdscrintRefused 0#4) rfl rfl,
    decodeWord_complete (m := 0b00#2) (i := .mrcDbgdtrrxint 1#4) rfl rfl,
    decodeWord_complete (m := 0b00#2) (i := .mcrDbgdtrtxint 2#4) rfl rfl, rfl, rfl⟩

theorem toOption_eq_some {ε α : Type} {e : Except ε α} {a : α} : e.toOption = some a ↔ e = .ok a := by
  cases e <;> simp [Except.toOption]

/-- An offset of the table stands for a row of the mode after reset. -/
theorem decodeTableOffset_encodable {off : Nat} {i : Instr} (h : decodeTableOffset off = some i) :
    i.encodable tableParams 0b00#2 = true := by
  unfold decodeTableOffset at h
  split at h
  · exact (decodeOffset_read_sound (toOption_eq_some.mp h)).1
  · exact (decodeOffset_write_sound (toOption_eq_some.mp h)).1

/-- Whatever a table word decodes to, its operands are well formed. -/
theorem decodeTableWord_encodable {nbits w : Nat} {i : Instr} (h : decodeTableWord nbits w = some i) :
    i.encodable tableParams 0b00#2 = true := by
  unfold decodeTableWord at h
  split at h
  · exact decodeTableOffset_encodable h
  · split at h
    · next j hword =>
      cases h
      exact (decodeWord_sound _ hword).1
    · split at h
      · exact decodeTableOffset_encodable h
      · cases h

/-- The word of a CP14 row depends on no parameter (R82). -/
theorem encode_word_params {p : Config.Params} {i : Instr} {x : Word} (q : Config.Params)
    (h : encode p i = .word x) : encode q i = .word x := by
  cases i with
  | mrcDbgdscrint | mrcDbgdscrext | mcrDbgdscrext | mcrDbgdscrintRefused | mrcDbgdtrrxint | mcrDbgdtrtxint => exact h
  | _ => cases h

/-- In normal state with nothing issued a word is placed at the head of the processor's own stream. -/
theorem placeWord_stream {w : Word} {s : State} (hi : s.cpu.issued = none) (hd : s.cpu.dbg = .normal) :
    placeWord w s =
      { s with
        agenda := { s.agenda with
          schedule := .processor :: s.agenda.schedule
          program := w :: s.agenda.program } } := by
  simp [placeWord, scheduleNext, itrBusy, inDebugState, hi, hd]

/-- A placed word that decodes is what the next step runs, and the queues are then as before. -/
theorem step_placeWord {w : Word} {s : State} {i : Instr} (hi : s.cpu.issued = none) (hd : s.cpu.dbg = .normal)
    (hdec : decodeWord s.params w = .ok i) : step (placeWord w s) = mapNext checkItren (exec i s) := by
  rw [placeWord_stream hi hd]
  obtain ⟨hrun, -⟩ := processorStepRunsDecodedWord
    { s with agenda := { s.agenda with
        schedule := .processor :: s.agenda.schedule
        program := w :: s.agenda.program } } s.agenda.schedule rfl
  obtain ⟨-, hstream⟩ := hrun w i hdec
  exact hstream s.agenda.program hi hd rfl

/-- The parameters under which a table row is placed: a DTR row sets `DECODE_DTR_INT` (R83). -/
def placedParams (p : Config.Params) (i : Instr) : Config.Params :=
  { p with decodeDtrInt := p.decodeDtrInt || i.isDtrInt }

theorem placeInstr_word {i : Instr} {s : State} {x : Word} (h : encode s.params i = .word x) :
    placeInstr i s = placeWord x { s with params := placedParams s.params i } := by
  simp only [placeInstr, h, placedParams]

/-- Settles O48: the word of a table row decodes to that row under the parameters it is placed with. -/
theorem placedWordRunsNext : Obligations.PlacedWordRunsNext := by
  intro s nbits w i x htable hword hi hd
  obtain ⟨hwf, -, hmode⟩ := encodable_iff.mp (decodeTableWord_encodable htable)
  have hplaced : i.encodable (placedParams s.params i) 0b00#2 = true :=
    encodable_iff.mpr ⟨hwf, fun hdtr => by simp [placedParams, hdtr], hmode⟩
  have hdec : decodeWord (placedParams s.params i) x = .ok i :=
    decodeWord_complete hplaced (encode_word_params _ hword)
  have hplace : s.withFetchWord nbits w = placeWord x { s with params := placedParams s.params i } := by
    simp only [State.withFetchWord, htable, placeInstr_word hword]
  rw [hplace]
  exact step_placeWord (s := { s with params := placedParams s.params i }) hi hd hdec

/-! Refusals of the CP14 rows. -/

theorem cp14Access_fifteen (r : Cp14Reg) (k : State → Outcome) (s : State) :
    cp14Access r 15#4 k s = .refused .rdIsPc :=
  if_pos rfl

/-- User mode may not reach the external view while bit [12] is clear (R100, decision D13). -/
theorem cp14Access_dbgdscrext_user {rd : BitVec 4} {k : State → Outcome} {s : State} (hrd : rd ≠ 15#4)
    (hmode : s.cpu.mode = .user) (hdis : s.dscr.udccdis = false) :
    cp14Access .dbgdscrext rd k s = .refused .userAccessToExtendedView := by
  have hcheck : cp14Check s .dbgdscrext = .refuse := by simp [cp14Check, hmode, hdis]
  simp only [cp14Access, if_neg hrd, hcheck]

/-- Settles O16: the frame that the five accesses share makes both tests. -/
theorem cp14AccessRefusals : Obligations.Cp14AccessRefusals := by
  intro s
  refine ⟨?rdIsPc, fun rd hrd hmode hdis => ?userAccess⟩
  case rdIsPc =>
    simp [exec, execMrcDbgdscrint, execMrcDbgdscrext, execMcrDbgdscrext, execMrcDbgdtrrxint, execMcrDbgdtrtxint,
      cp14Access_fifteen]
  case userAccess =>
    simp [exec, execMrcDbgdscrext, execMcrDbgdscrext, cp14Access_dbgdscrext_user hrd hmode hdis]

theorem execMcrDbgdscrintRefused_refuse {s : State} (rd : BitVec 4) (h : s.params.roMcrPolicy = .refuse) :
    execMcrDbgdscrintRefused rd s = .refused .readOnlyView := by
  simp only [execMcrDbgdscrintRefused, h]

theorem execMcrDbgdscrintRefused_exception {s : State} (rd : BitVec 4)
    (h : s.params.roMcrPolicy = .undefinedException) :
    execMcrDbgdscrintRefused rd s = .next (raiseUndefined s) := by
  simp only [execMcrDbgdscrintRefused, h]

/-- Settles O12: each policy is one branch, and the second is the equation of the exception. -/
theorem mcrToReadOnlyViewByPolicy : Obligations.McrToReadOnlyViewByPolicy := by
  intro rd s
  refine ⟨execMcrDbgdscrintRefused_refuse rd, fun hpolicy => ?_⟩
  refine ⟨drawnBit s 0, if inDebugState s then s.cpu.pc else drawnWord s 1,
    if inDebugState s then s.draws + 1 else s.draws + 1 + 1, ?_, fun hd => if_pos (inDebugState_iff.mpr hd)⟩
  exact (execMcrDbgdscrintRefused_exception rd hpolicy).trans (by rw [raiseUndefined_eq]; rfl)

/-! The DTR accesses without a word. -/

theorem dtrEventEnabled_iff {s : State} : dtrEventEnabled s = true ↔
    (s.cpu.issued = none ∧ s.cpu.dbg = .normal) ∨
      ∃ w, s.cpu.issued = some w ∧ decodeWord s.params w = .error .notInScope := by
  unfold dtrEventEnabled
  cases hi : s.cpu.issued with
  | none => simp [inDebugState]
  | some w =>
    rcases hd : decodeWord s.params w with e | i
    · cases e <;> simp [hd]
    · simp [hd]

/-- Settles O41: both events have the same precondition, and each happens as its instruction. -/
theorem dtrEventsAreTheDtrInstructions : Obligations.DtrEventsAreTheDtrInstructions := by
  intro rd s possible
  have hiff : dtrEventEnabled s = true ↔ possible := dtrEventEnabled_iff
  rw [← hiff]
  exact ⟨fun hen => ⟨applyEvent_enabled hen, applyEvent_enabled hen⟩,
    fun hen => ⟨applyEvent_not_enabled hen, applyEvent_not_enabled hen⟩⟩

/-! How a step is refused. -/

theorem mapNext_eq_refused {f : State → State} {o : Outcome} {r : Refusal} (h : mapNext f o = .refused r) :
    o = .refused r := by
  cases o with
  | refused r' => exact h
  | next | fault => cases h

/-- The four ways a step is refused: the decoder rejects what an agent presents, or a row, a stalled access or an event
is refused by its own rule. The row of an access is one that the ExtDCCmode of this moment selects. -/
inductive StepRefused (s : State) (r : Refusal) : Prop where
  | rejected (e : DecodeError) (hr : refusalOf e = r)
  | row (i : Instr) (g : Agenda) (hmode : ∀ d, i.dccMode = some d → s.dscr.extdccmode = d.code)
      (hrun : exec i { s with agenda := g } = .refused r)
  | retry (p : StalledAccess) (g : Agenda)
      (hrun : retryStalled p { s with agenda := g, stalledAccess := none } = .refused r)
  | event (e : Event) (g : Agenda) (hrun : happen e { s with agenda := g } = .refused r)

theorem decodeWord_dccMode {p : Config.Params} {w : Word} {i : Instr} (h : decodeWord p w = .ok i) :
    i.dccMode = none := by
  obtain ⟨rd, rfl | rfl | rfl | rfl | rfl | rfl⟩ := decodeWord_ok h <;> rfl

theorem processorTurn_refused {s : State} {r : Refusal} (h : processorTurn s = .refused r) : StepRefused s r := by
  rcases hfetch : fetchWord s with _ | ⟨w, t⟩
  · cases (processorTurn_of_no_fetch hfetch).symm.trans h
  · cases hdec : decodeWord t.params w with
    | error e =>
      cases (processorTurn_of_reject hfetch hdec).symm.trans h
      exact .rejected e rfl
    | ok i =>
      obtain ⟨g, rfl⟩ := fetchWord_state hfetch
      have hrun := mapNext_eq_refused ((processorTurn_of_fetch hfetch hdec).symm.trans h)
      exact .row i g (by simp [decodeWord_dccMode hdec]) hrun

theorem debuggerTurn_refused {s : State} {r : Refusal} (h : debuggerTurn s = .refused r) : StepRefused s r := by
  cases hp : s.stalledAccess with
  | some p =>
    simp only [debuggerTurn, hp] at h
    exact .retry p s.agenda (mapNext_eq_refused h)
  | none =>
    cases ha : s.agenda.accesses with
    | nil => simp [debuggerTurn, hp, ha] at h
    | cons a more =>
      cases hdec : decodeAccess s.params s.dscr.extdccmode a with
      | error e =>
        cases (debuggerTurn_of_reject hp ha hdec).symm.trans h
        exact .rejected e rfl
      | ok i =>
        obtain ⟨-, -, -, hoff⟩ := decodeAccess_ok hdec
        have hrun := mapNext_eq_refused ((debuggerTurn_of_decode hp ha hdec).symm.trans h)
        exact .row i _ (fun d hd => decodeOffset_dccMode hoff hd) hrun

theorem hardwareTurn_refused {s : State} {r : Refusal} (h : hardwareTurn s = .refused r) : StepRefused s r := by
  cases he : s.agenda.events with
  | nil => simp [hardwareTurn, he] at h
  | cons e es =>
    have hrun := mapNext_eq_refused ((hardwareTurn_of_event he).symm.trans h)
    unfold applyEvent at hrun
    split at hrun
    · exact .event e _ hrun
    · cases hrun

theorem step_refused {s : State} {r : Refusal} (h : step s = .refused r) : StepRefused s r := by
  cases hs : s.agenda.schedule with
  | nil => simp [step, hs] at h
  | cons a rest =>
    rw [step_of_schedule hs] at h
    have hturn : StepRefused { s with agenda := { s.agenda with schedule := rest } } r := by
      cases a with
      | processor => exact processorTurn_refused h
      | debugger => exact debuggerTurn_refused h
      | hardware => exact hardwareTurn_refused h
    cases hturn with
    | rejected e hr => exact .rejected e hr
    | row i g hmode hrun => exact .row i g hmode hrun
    | retry p g hrun => exact .retry p g hrun
    | event e g hrun => exact .event e g hrun

/-! No row, stalled access or event is refused for the mode, where a row's mode is selected. -/

/-- The outcome is not the refusal of a row that ExtDCCmode does not select (log 18). -/
abbrev MeetsMode (o : Outcome) : Prop := o ≠ .refused .modeNotSelected

section
variable {s : State}

theorem meetsMode_ite {c : Prop} [Decidable c] {o₁ o₂ : Outcome} (h₁ : MeetsMode o₁) (h₂ : MeetsMode o₂) :
    MeetsMode (if c then o₁ else o₂) := by
  split <;> assumption

theorem meetsMode_inMode {m : DccMode} {o : Outcome} (hm : s.dscr.extdccmode = m.code) (ho : MeetsMode o) :
    MeetsMode (inMode m s o) := by
  rwa [inMode_selected hm]

theorem meetsMode_cp14Access {r : Cp14Reg} {rd : BitVec 4} {k : State → Outcome} (hk : MeetsMode (k s)) :
    MeetsMode (cp14Access r rd k s) := by
  obtain ⟨-, -, h⟩ | ⟨-, -, h⟩ | ⟨-, -, h⟩ | ⟨-, h⟩ := cp14Access_cases r rd k s <;> rw [h]
  · exact hk
  all_goals nofun

/-- `write_dscr` refuses its data, never the mode the access is made in (R42). -/
theorem writeDscr_error_ne {v : Word} {r : Refusal} (h : writeDscr v s = .error r) : r ≠ .modeNotSelected := by
  obtain ⟨-, -, hw⟩ | ⟨-, -, hw⟩ | ⟨-, -, hw⟩ := writeDscr_cases v s <;> cases hw.symm.trans h <;> nofun

theorem execMrcDbgdscrint_meetsMode (rd : BitVec 4) : MeetsMode (execMrcDbgdscrint rd s) :=
  meetsMode_cp14Access nofun

theorem execMrcDbgdscrext_meetsMode (rd : BitVec 4) : MeetsMode (execMrcDbgdscrext rd s) :=
  meetsMode_cp14Access nofun

theorem execMcrDbgdscrext_meetsMode (rd : BitVec 4) : MeetsMode (execMcrDbgdscrext rd s) := by
  refine meetsMode_cp14Access ?_
  split
  · nofun
  · next r hw => exact fun heq => writeDscr_error_ne hw (by simpa using heq)

theorem execApbWrDbgdscrext_meetsMode (v : Word) : MeetsMode (execApbWrDbgdscrext v s) := by
  unfold execApbWrDbgdscrext
  split
  · nofun
  · next r hw => exact fun heq => writeDscr_error_ne hw (by simpa using heq)

theorem execMcrDbgdscrintRefused_meetsMode (rd : BitVec 4) : MeetsMode (execMcrDbgdscrintRefused rd s) := by
  unfold execMcrDbgdscrintRefused
  split <;> nofun

theorem execMrcDbgdtrrxint_meetsMode (rd : BitVec 4) : MeetsMode (execMrcDbgdtrrxint rd s) :=
  meetsMode_cp14Access nofun

theorem execMcrDbgdtrtxint_meetsMode (rd : BitVec 4) : MeetsMode (execMcrDbgdtrtxint rd s) :=
  meetsMode_cp14Access (meetsMode_ite nofun nofun)

theorem stallDtrrxWrite_meetsMode (v : Word) : MeetsMode (stallDtrrxWrite v s) :=
  meetsMode_ite nofun nofun

theorem stallDtrtxRead_meetsMode : MeetsMode (stallDtrtxRead s) :=
  meetsMode_ite nofun nofun

theorem nonblockingDtrtxRead_meetsMode : MeetsMode (nonblockingDtrtxRead s) :=
  meetsMode_ite nofun nofun

theorem stallItrWrite_meetsMode (v : Word) : MeetsMode (stallItrWrite v s) :=
  meetsMode_ite nofun (meetsMode_ite nofun (meetsMode_ite nofun nofun))

/-- A stalled access is evaluated by its own rule, whatever ExtDCCmode is by then (R121 b, R123). -/
theorem retryStalled_meetsMode (p : StalledAccess) : MeetsMode (retryStalled p s) := by
  cases p with
  | dtrrxWrite v => exact stallDtrrxWrite_meetsMode v
  | dtrtxRead => exact stallDtrtxRead_meetsMode
  | dtrtxReadEnded => exact nonblockingDtrtxRead_meetsMode
  | itrWrite v => exact stallItrWrite_meetsMode v

theorem exec_meetsMode {i : Instr} (hmode : ∀ d, i.dccMode = some d → s.dscr.extdccmode = d.code) :
    MeetsMode (exec i s) := by
  cases i with
  | mrcDbgdscrint rd => exact execMrcDbgdscrint_meetsMode rd
  | mrcDbgdscrext rd => exact execMrcDbgdscrext_meetsMode rd
  | mcrDbgdscrext rd => exact execMcrDbgdscrext_meetsMode rd
  | mcrDbgdscrintRefused rd => exact execMcrDbgdscrintRefused_meetsMode rd
  | mrcDbgdtrrxint rd => exact execMrcDbgdtrrxint_meetsMode rd
  | mcrDbgdtrtxint rd => exact execMcrDbgdtrtxint_meetsMode rd
  | apbRdDbgdscrext | apbWrDbgdrcr => nofun
  | apbWrDbgdscrext v => exact execApbWrDbgdscrext_meetsMode v
  | apbWrDbgdtrrxextNonblocking => exact meetsMode_inMode (hmode _ rfl) (meetsMode_ite nofun nofun)
  | apbWrDbgdtrrxextStall v => exact meetsMode_inMode (hmode _ rfl) (stallDtrrxWrite_meetsMode v)
  | apbRdDbgdtrtxextNonblocking => exact meetsMode_inMode (hmode _ rfl) nonblockingDtrtxRead_meetsMode
  | apbRdDbgdtrtxextStall => exact meetsMode_inMode (hmode _ rfl) stallDtrtxRead_meetsMode
  | apbWrDbgitrStall v => exact meetsMode_inMode (hmode _ rfl) (stallItrWrite_meetsMode v)
  | apbWrDbgitrNonblocking =>
    exact meetsMode_inMode (hmode _ rfl) (meetsMode_ite nofun (meetsMode_ite nofun (meetsMode_ite nofun nofun)))
  | apbWrDbgdtrrxextFast | apbRdDbgdtrtxextFast | apbWrDbgitrFast =>
    exact meetsMode_inMode (hmode _ rfl) (meetsMode_ite nofun (meetsMode_ite nofun nofun))

/-- The DTR accesses are the only events that can be refused at all. -/
theorem happen_meetsMode (e : Event) : MeetsMode (happen e s) := by
  cases e with
  | readDtrRxInt rd => exact execMrcDbgdtrrxint_meetsMode rd
  | writeDtrTxInt rd => exact execMcrDbgdtrtxint_meetsMode rd
  | _ => nofun

end

/-- Settles O60: the decoder gives a row under its own mode only, and no other refusal is for the mode. -/
theorem noStepMeetsTheWrongMode : Obligations.NoStepMeetsTheWrongMode := by
  intro s h
  cases step_refused h with
  | rejected e hr => cases e <;> cases hr
  | row i g hmode hrun => exact exec_meetsMode (s := { s with agenda := g }) hmode hrun
  | retry p g hrun => exact retryStalled_meetsMode p hrun
  | event e g hrun => exact happen_meetsMode e hrun

end Sys2Proof.Machine
end

section
/-!
SUPPORT. The statements of 40_cp14_access.md about one access: what each of the five accesses does where it is permitted
(R100 to R105, R107), and the exception they share (R180). All five run in the frame `cp14Access`, so each proof
supplies only what its own access does before it retires.
-/

namespace Sys2Proof.Machine

/-! The permission check. -/

/-- Where bit [12] does not close the registers to User mode, the check permits all but the external view (R100). -/
theorem cp14Check_of_not_disabled {r : Cp14Reg} {s : State} (hr : r ≠ .dbgdscrext)
    (h : ¬(s.cpu.mode = .user ∧ s.dscr.udccdis = true)) : cp14Check s r = .permitted := by
  by_cases hmode : s.cpu.mode = .user
  · have hdis : s.dscr.udccdis = false := by simpa [hmode] using h
    cases r with
    | dbgdscrext => exact absurd rfl hr
    | dbgdscrint | dbgdtrrxint | dbgdtrtxint => simp [cp14Check, hmode, hdis]
  · exact cp14Check_of_ne_user r hmode

theorem cp14Check_of_disabled {s : State} (r : Cp14Reg) (hmode : s.cpu.mode = .user) (hdis : s.dscr.udccdis = true) :
    cp14Check s r = .undefined := by
  simp [cp14Check, hmode, hdis]

section
variable {r : Cp14Reg} {rd : BitVec 4} {k : State → Outcome} {s : State}

/-- A permitted access that completes ends in its retirement (R107). -/
theorem cp14Access_retires {t : State} (hrd : rd ≠ 15#4) (hperm : cp14Check s r = .permitted)
    (hk : k s = .next (retire t)) :
    cp14Access r rd k s = .next
      { t with
        dscr := { t.dscr with pipeadv := true, instrcompl := t.dscr.instrcompl || itrBusy t }
        cpu :=
          { t.cpu with
            issued := none
            result := .completed
            pc := if itrBusy t then t.cpu.pc else t.cpu.pc + t.params.pcStep } } := by
  simp only [cp14Access, if_neg hrd, hperm, hk, retire_eq]

theorem cp14Access_undefined (hrd : rd ≠ 15#4) (hcheck : cp14Check s r = .undefined) :
    cp14Access r rd k s = .next (raiseUndefined s) := by
  simp only [cp14Access, if_neg hrd, hcheck]

end

/-! Accesses that are permitted. -/

/-- Settles O8: the view's three bits are the next three free bits. -/
theorem mrcDscrIntReturnsInternalView : Obligations.MrcDscrIntReturnsInternalView := by
  intro rd s hrd hopen
  have hperm : cp14Check s .dbgdscrint = .permitted := cp14Check_of_not_disabled (by decide) hopen
  refine ⟨drawnBit s 0, drawnBit s 1, drawnBit s 2, s.draws + 3, ?_⟩
  rw [exec, execMrcDbgdscrint, cp14Access_retires hrd hperm rfl]
  rfl

/-- Settles O9: the parameter decides whether the latches are copied before the retirement. -/
theorem mrcDscrExtReturnsExternalView : Obligations.MrcDscrExtReturnsExternalView := by
  intro rd s hrd hmode
  refine ⟨drawnBit s 0, s.draws + 1, ?_⟩
  rw [exec, execMrcDbgdscrext, cp14Access_retires hrd (cp14Check_of_ne_user _ hmode) rfl]
  cases s.params.cp14ExtReadLatches <;> rfl

/-- Settles O10: the data passes both tests of `write_dscr`, which makes the check of R162 before the retirement. -/
theorem mcrDscrExtWritesEightFields : Obligations.McrDscrExtWritesEightFields := by
  intro rd s hrd hmode hreserved hdata
  have hwrite := writeDscr_accepted hreserved hdata
  rw [checkItren_eq] at hwrite
  rw [exec, execMcrDbgdscrext, cp14Access_retires hrd (cp14Check_of_ne_user _ hmode) (by rw [hwrite])]
  rfl

/-- The word the processor's read of DBGDTRRXint returns: free while DBGDTRRX is empty (R104). -/
def dtrrxData (s : State) : Word := if s.dscr.rxfull then s.dcc.dtrrx else drawnWord s 0

/-- Settles O13: a free value is used exactly when DBGDTRRX is empty. -/
theorem mrcDtrRxIntTakesData : Obligations.MrcDtrRxIntTakesData := by
  intro rd s hrd hopen
  have hperm : cp14Check s .dbgdtrrxint = .permitted := cp14Check_of_not_disabled (by decide) hopen
  refine ⟨dtrrxData s, if s.dscr.rxfull then s.draws else s.draws + 1, fun hfull => by simp [dtrrxData, hfull], ?_⟩
  rw [exec, execMrcDbgdtrrxint, cp14Access_retires hrd hperm rfl, dtrrxData]
  cases s.dscr.rxfull <;> rfl

/-- Settles O14: a write that finds DBGDTRTX full records the fault and uses two free values, one that finds it empty
stores the register's word. -/
theorem mcrDtrTxIntGivesData : Obligations.McrDtrTxIntGivesData := by
  intro rd s hrd hopen
  have hperm : cp14Check s .dbgdtrtxint = .permitted := cp14Check_of_not_disabled (by decide) hopen
  rw [exec, execMcrDbgdtrtxint]
  cases hfull : s.dscr.txfull with
  | true =>
    refine ⟨drawnWord s 0, drawnBit s 1, s.draws + 2, nofun, ?_⟩
    rw [cp14Access_retires hrd hperm (if_pos hfull), Bool.or_true]
    rfl
  | false =>
    refine ⟨readReg s rd, true, s.draws, fun _ => ⟨rfl, rfl, rfl⟩, ?_⟩
    rw [cp14Access_retires hrd hperm (if_neg (by simp [hfull])), Bool.or_false]
    rfl

/-! Accesses that bit [12] closes to User mode. -/

/-- Settles O15: the check does not look at the register, so all five accesses raise the same exception. -/
theorem userAccessTakesUndefinedException : Obligations.UserAccessTakesUndefinedException := by
  intro i rd s hrd hi hmode hdis
  have hclosed : ∀ r k, cp14Access r rd k s = .next (raiseUndefined s) :=
    fun r k => cp14Access_undefined hrd (cp14Check_of_disabled r hmode hdis)
  have hraise : exec i s = .next (raiseUndefined s) := by
    simp only [List.mem_cons, List.not_mem_nil, or_false] at hi
    obtain rfl | rfl | rfl | rfl | rfl := hi <;>
      simp only [exec, execMrcDbgdscrint, execMrcDbgdscrext, execMcrDbgdscrext, execMrcDbgdtrrxint,
        execMcrDbgdtrtxint, hclosed]
  rw [hraise, raiseUndefined_eq]
  exact ⟨_, _, _, rfl, fun hd => if_pos (inDebugState_iff.mpr hd)⟩

end Sys2Proof.Machine
end

section
/-!
SUPPORT. The statement of 40_cp14_access.md about every step: TXfull_l implies TXfull (R122, I2) is kept until a write
of a full DBGDTRTX is recorded (R105). Four operations write one of the two flags: a read of DBGDTRTXext clears both, a
latch copy makes them equal, a write of DBGDTRTXint sets TXfull or is recorded, and a reset of the register draws the
latch.
-/

namespace Sys2Proof.Machine

/-- Unless a write of a full DBGDTRTX is recorded, TXfull_l implies TXfull. -/
def TxLatchAccounted (t : State) : Prop := t.faults.dtrTxWriteWhileFull = false → txLatchSound t = true

/-- The outcome's next state, if any, has the latch accounted for. -/
abbrev EnsuresTxLatch (o : Outcome) : Prop := Ensures o TxLatchAccounted

section
variable {s t : State}

theorem ensuresTxLatch_next (h : txLatchSound t = true) : EnsuresTxLatch (.next t) :=
  ensures_next.mpr fun _ => h

theorem txLatchSound_of_full (hfull : t.dscr.txfull = true) : txLatchSound t = true := by
  simp [txLatchSound, hfull]

/-- A latch that was just copied equals its flag (R120). -/
theorem txLatchSound_copyLatches (s : State) : txLatchSound (copyLatches s) = true := by
  simp [txLatchSound]

/-- A completed read of DBGDTRTXext leaves the latch clear (R122). -/
theorem txLatchSound_takeDtrtx (s : State) : txLatchSound (takeDtrtx s) = true := by
  simp [txLatchSound]

/-! Retirement, exceptions and the write of DBGDSCRext change neither flag. -/

theorem txLatchSound_retire (h : txLatchSound s = true) : txLatchSound (retire s) = true := by
  rwa [retire_eq]

theorem txLatchSound_raiseUndefined (h : txLatchSound s = true) : txLatchSound (raiseUndefined s) = true := by
  rwa [raiseUndefined_eq]

theorem txLatchSound_endIssued (h : txLatchSound s = true) : txLatchSound (endIssued s) = true := by
  rwa [endIssued_eq]

theorem txLatchSound_takeException (e : Exception) (h : txLatchSound s = true) :
    txLatchSound (takeException e s) = true := by
  rwa [takeException_eq]

theorem txLatchSound_writeDscr {v : Word} (hw : writeDscr v s = .ok t) (h : txLatchSound s = true) :
    txLatchSound t = true := by
  obtain ⟨-, rfl⟩ := writeDscr_ok hw
  exact h

end

section
variable {s : State} (h : txLatchSound s = true)
include h

/-! Stalled accesses. -/

theorem stallDtrrxWrite_txLatch (v : Word) : EnsuresTxLatch (stallDtrrxWrite v s) :=
  ensures_ite (ensuresTxLatch_next h) (ensuresTxLatch_next h)

theorem stallDtrtxRead_txLatch : EnsuresTxLatch (stallDtrtxRead s) :=
  ensures_ite (ensuresTxLatch_next (txLatchSound_takeDtrtx s)) (ensuresTxLatch_next h)

theorem nonblockingDtrtxRead_txLatch : EnsuresTxLatch (nonblockingDtrtxRead s) :=
  ensures_ite (ensuresTxLatch_next (txLatchSound_takeDtrtx _)) (ensuresTxLatch_next h)

theorem stallItrWrite_txLatch (v : Word) : EnsuresTxLatch (stallItrWrite v s) :=
  ensures_ite (ensuresTxLatch_next h)
    (ensures_ite (ensuresTxLatch_next h) (ensures_ite (ensures_refused _) (ensuresTxLatch_next h)))

theorem retryStalled_txLatch (p : StalledAccess) : EnsuresTxLatch (retryStalled p s) := by
  cases p with
  | dtrrxWrite v => exact stallDtrrxWrite_txLatch h v
  | dtrtxRead => exact stallDtrtxRead_txLatch h
  | dtrtxReadEnded => exact nonblockingDtrtxRead_txLatch h
  | itrWrite v => exact stallItrWrite_txLatch h v

/-! Rows. -/

theorem cp14Access_txLatch {r : Cp14Reg} {rd : BitVec 4} {k : State → Outcome} (hk : EnsuresTxLatch (k s)) :
    EnsuresTxLatch (cp14Access r rd k s) :=
  ensures_cp14Access (fun _ => txLatchSound_raiseUndefined h) hk

theorem execMrcDbgdscrint_txLatch (rd : BitVec 4) : EnsuresTxLatch (execMrcDbgdscrint rd s) :=
  cp14Access_txLatch h (ensuresTxLatch_next (txLatchSound_retire h))

theorem execMrcDbgdscrext_txLatch (rd : BitVec 4) : EnsuresTxLatch (execMrcDbgdscrext rd s) := by
  refine cp14Access_txLatch h (ensuresTxLatch_next (txLatchSound_retire ?_))
  split
  · exact txLatchSound_copyLatches _
  · exact h

theorem execMcrDbgdscrext_txLatch (rd : BitVec 4) : EnsuresTxLatch (execMcrDbgdscrext rd s) := by
  refine cp14Access_txLatch h ?_
  split
  · next t hw => exact ensuresTxLatch_next (txLatchSound_retire (txLatchSound_writeDscr hw h))
  · exact ensures_refused _

theorem execMcrDbgdscrintRefused_txLatch (rd : BitVec 4) : EnsuresTxLatch (execMcrDbgdscrintRefused rd s) := by
  unfold execMcrDbgdscrintRefused
  split
  · exact ensures_refused _
  · exact ensuresTxLatch_next (txLatchSound_raiseUndefined h)

theorem execMrcDbgdtrrxint_txLatch (rd : BitVec 4) : EnsuresTxLatch (execMrcDbgdtrrxint rd s) := by
  refine cp14Access_txLatch h (ensuresTxLatch_next (txLatchSound_retire ?_))
  dsimp only
  split <;> exact h

/-- A write that finds DBGDTRTX full is recorded; one that finds it empty sets TXfull (R105). -/
theorem execMcrDbgdtrtxint_txLatch (rd : BitVec 4) : EnsuresTxLatch (execMcrDbgdtrtxint rd s) := by
  refine cp14Access_txLatch h (ensures_ite (ensures_next.mpr fun hnone => ?full) ?empty)
  case full => simp at hnone
  case empty => exact ensuresTxLatch_next (txLatchSound_retire (txLatchSound_of_full rfl))

theorem execApbWrDbgdscrext_txLatch (v : Word) : EnsuresTxLatch (execApbWrDbgdscrext v s) := by
  unfold execApbWrDbgdscrext
  split
  · next t hw =>
    have ht : txLatchSound t = true := txLatchSound_writeDscr hw h
    exact ensuresTxLatch_next ht
  · exact ensures_refused _

theorem exec_txLatch (i : Instr) : EnsuresTxLatch (exec i s) := by
  cases i with
  | mrcDbgdscrint rd => exact execMrcDbgdscrint_txLatch h rd
  | mrcDbgdscrext rd => exact execMrcDbgdscrext_txLatch h rd
  | mcrDbgdscrext rd => exact execMcrDbgdscrext_txLatch h rd
  | mcrDbgdscrintRefused rd => exact execMcrDbgdscrintRefused_txLatch h rd
  | mrcDbgdtrrxint rd => exact execMrcDbgdtrrxint_txLatch h rd
  | mcrDbgdtrtxint rd => exact execMcrDbgdtrtxint_txLatch h rd
  | apbRdDbgdscrext => exact ensuresTxLatch_next (txLatchSound_copyLatches _)
  | apbWrDbgdscrext v => exact execApbWrDbgdscrext_txLatch h v
  | apbWrDbgdrcr v => exact ensuresTxLatch_next h
  | apbWrDbgdtrrxextStall v => exact ensures_inMode (stallDtrrxWrite_txLatch h v)
  | apbRdDbgdtrtxextStall => exact ensures_inMode (stallDtrtxRead_txLatch h)
  | apbWrDbgitrStall v => exact ensures_inMode (stallItrWrite_txLatch h v)
  | apbRdDbgdtrtxextNonblocking => exact ensures_inMode (nonblockingDtrtxRead_txLatch h)
  | apbWrDbgdtrrxextNonblocking v =>
    exact ensures_inMode (ensures_ite (ensuresTxLatch_next h) (ensuresTxLatch_next h))
  | apbWrDbgdtrrxextFast v =>
    exact ensures_inMode
      (ensures_ite (ensuresTxLatch_next h) (ensures_ite (ensuresTxLatch_next h) (ensures_refused _)))
  | apbRdDbgdtrtxextFast =>
    exact ensures_inMode
      (ensures_ite (ensuresTxLatch_next h)
        (ensures_ite (ensuresTxLatch_next (txLatchSound_takeDtrtx s)) (ensures_refused _)))
  | apbWrDbgitrNonblocking v =>
    exact ensures_inMode
      (ensures_ite (ensuresTxLatch_next h)
        (ensures_ite (ensuresTxLatch_next h) (ensures_ite (ensures_refused _) (ensuresTxLatch_next h))))
  | apbWrDbgitrFast v =>
    exact ensures_inMode
      (ensures_ite (ensuresTxLatch_next h) (ensures_ite (ensures_refused _) (ensuresTxLatch_next h)))

/-! Events. -/

/-- A reset of the register draws the latch; every other event but a DTR write leaves both flags alone (R200). -/
theorem happen_txLatch {e : Event} (he : ∀ p, e ≠ .reset p true) : EnsuresTxLatch (happen e s) := by
  cases e with
  | readDtrRxInt rd => exact execMrcDbgdtrrxint_txLatch h rd
  | writeDtrTxInt rd => exact execMcrDbgdtrtxint_txLatch h rd
  | undefinedInDebugState | syncDataAbortInDebugState => exact ensuresTxLatch_next (txLatchSound_endIssued h)
  | debugException | interrupt => exact ensuresTxLatch_next (txLatchSound_takeException _ h)
  | signalChange sig level => cases sig <;> exact ensuresTxLatch_next h
  | reset p d =>
    cases d with
    | true => exact absurd rfl (he p)
    | false => exact ensuresTxLatch_next (by rwa [txLatchSound, reset_processor_dscr])
  | retire | itrDone | itrIdle | enterDebugState | restartRequest | exitDebugState | asyncAbortInDebugState
    | processorStatusChange =>
    exact ensuresTxLatch_next h

end

/-- Settles O54: rows, stalled accesses and events other than a reset of the register account for the latch, and the
check of R162 sees neither the flags nor the record of R105. -/
theorem txLatchStaysSoundWithoutFault : Obligations.TxLatchStaysSoundWithoutFault := by
  intro s t h hstep hfault hreset
  cases step_ran hstep with
  | instruction _ i g u _ _ hrun ht =>
    subst ht
    exact exec_txLatch (s := { s with agenda := g }) h i u hrun hfault
  | access _ i g u _ _ _ _ hrun ht =>
    subst ht
    exact exec_txLatch (s := { s with agenda := g }) h i u hrun hfault
  | retry p g u _ hrun ht =>
    subst ht
    exact retryStalled_txLatch (s := { s with agenda := g, stalledAccess := none }) h p u hrun hfault
  | event e g u _ hnext _ hrun ht =>
    subst ht
    have he : ∀ p, e ≠ .reset p true := by
      rintro p rfl
      simp [hreset p] at hnext
    exact happen_txLatch (s := { s with agenda := g }) h he u hrun hfault

end Sys2Proof.Machine
end

section
/-!
SUPPORT. The statement of 40_cp14_access.md about a stalled write: the processor's read of DBGDTRRXint (R104) lets the
debugger's held write of DBGDTRRXext complete (R123, R125). One lemma for each of the three steps, then the run.
-/

namespace Sys2Proof.Machine

section
variable {s : State} {rest : List Agent}

/-- A Stall-mode write that finds DBGDTRRX full is held, and the step keeps the register and the processor (R125). -/
theorem step_dtrrxWrite_held {a : Access} {more : List Access} {v : Word}
    (hs : s.agenda.schedule = .debugger :: rest) (hp : s.stalledAccess = none)
    (ha : s.agenda.accesses = a :: more)
    (hd : decodeAccess s.params s.dscr.extdccmode a = .ok (.apbWrDbgdtrrxextStall v)) (hfull : s.dscr.rxfull = true) :
    ∃ t, step s = .next t ∧ t.stalledAccess = some (.dtrrxWrite v) ∧ t.dscr = s.dscr ∧ t.dcc = s.dcc ∧
      t.cpu = s.cpu ∧ t.agenda = { s.agenda with schedule := rest, accesses := more } := by
  obtain ⟨hheld, -⟩ := stalledAccessIsHeldUntilItsCondition s rest hs
  exact ⟨_, hheld a more _ _ hp ha hd (.inl ⟨v, rfl, rfl, hfull⟩), rfl, rfl, rfl, rfl, rfl⟩

/-- The processor's read of a full DBGDTRRX, delivered in its own stream, takes the word and empties the register,
and an access that is held stays held (R104). -/
theorem step_readDtrRxInt {rd : BitVec 4} {es : List Event} (hs : s.agenda.schedule = .hardware :: rest)
    (he : s.agenda.events = .readDtrRxInt rd :: es) (hrd : rd ≠ 15#4) (hi : s.cpu.issued = none)
    (hn : s.cpu.dbg = .normal) (hopen : ¬(s.cpu.mode = .user ∧ s.dscr.udccdis = true))
    (hfull : s.dscr.rxfull = true) :
    ∃ t, step s = .next t ∧ readReg t rd = s.dcc.dtrrx ∧ t.dscr.rxfull = false ∧
      t.stalledAccess = s.stalledAccess ∧ t.agenda = { s.agenda with schedule := rest, events := es } := by
  rw [hardwareStepDeliversEvent s rest _ es hs he]
  obtain ⟨hpossible, -⟩ :=
    dtrEventsAreTheDtrInstructions rd { s with agenda := { s.agenda with schedule := rest, events := es } }
  obtain ⟨hread, -⟩ := hpossible (.inl ⟨hi, hn⟩)
  obtain ⟨v, n, hv, hexec⟩ :=
    mrcDtrRxIntTakesData rd { s with agenda := { s.agenda with schedule := rest, events := es } } hrd hopen
  obtain ⟨rfl, -⟩ := hv hfull
  rw [hread, hexec]
  exact ⟨_, rfl, readReg_writeReg_same s.dcc.dtrrx s hrd, rfl, rfl, rfl⟩

/-- A held write that finds DBGDTRRX empty completes (R125). -/
theorem step_dtrrxWrite_completes {v : Word} (hs : s.agenda.schedule = .debugger :: rest)
    (hp : s.stalledAccess = some (.dtrrxWrite v)) (hempty : s.dscr.rxfull = false) :
    ∃ t, step s = .next t ∧ t.dcc.dtrrx = v ∧ t.dscr.rxfull = true ∧ t.dscr.rxfullL = true ∧ t.cpu = s.cpu ∧
      t.apbResult = some (.ok none) ∧ t.stalledAccess = none ∧
      t.agenda = { s.agenda with schedule := rest } :=
  ⟨_, step_completes hs hp (stallDtrrxWrite_empty v hempty), rfl, rfl, rfl, rfl, rfl, rfl, rfl⟩

end

/-- Settles O46: the write is held, the read empties DBGDTRRX, and the write completes. -/
theorem stalledWriteCompletesAfterRead : Obligations.StalledWriteCompletesAfterRead := by
  intro s rest a more v rd es hs hp ha he hd hfull hrd hi hn hopen
  obtain ⟨s₁, hstep₁, hp₁, hdscr₁, hdcc₁, hcpu₁, hagenda₁⟩ := step_dtrrxWrite_held hs hp ha hd hfull
  obtain ⟨s₂, hstep₂, hreg₂, hempty₂, hp₂, hagenda₂⟩ :=
    step_readDtrRxInt (rest := .debugger :: rest) (es := es) (by rw [hagenda₁]) (by rw [hagenda₁, he]) hrd
      (by rwa [hcpu₁]) (by rwa [hcpu₁]) (by rwa [hcpu₁, hdscr₁]) (by rwa [hdscr₁])
  obtain ⟨t, hstep₃, hdata, hrx, hrxL, hcpu, hresult, hp₃, hagenda₃⟩ :=
    step_dtrrxWrite_completes (rest := rest) (by rw [hagenda₂]) (hp₂.trans hp₁) hempty₂
  refine ⟨t, ?run, hdata, hrx, hrxL, ?reg, hresult, ?accesses, hp₃⟩
  case run => rw [core_run_succ hstep₁, core_run_succ hstep₂, core_run_succ hstep₃]; rfl
  case reg =>
    have hreg : readReg t rd = readReg s₂ rd := by simp only [readReg, hcpu]
    rw [hreg, hreg₂, hdcc₁]
  case accesses => rw [hagenda₃, hagenda₂, hagenda₁]

end Sys2Proof.Machine
end

section
/-!
SUPPORT. The statements of 41_apb_access.md about one access: what each row of the debug interface does under the mode
that selects it, with its frame (R120 to R135), and what follows for the debugger. Three things are shared and stand
first: a row is selected by ExtDCCmode (R122, R136), Sticky synchronous abort is tested before anything else (R133),
and the rows that issue no instruction leave the processor alone. Four obligations have the name of an operation of the
model, hence the namespace `Apb`.
-/

namespace Sys2Proof.Machine.Apb

/-! Mode-governed rows. -/

section
variable {i : Instr} {m : DccMode} {s : State} {o o₁ o₂ : Outcome}

theorem exec_eq_inMode (h : i.dccMode = some m) (s : State) : ∃ o, exec i s = inMode m s o := by
  cases i <;> cases h <;> exact ⟨_, rfl⟩

theorem inMode_unselected (h : s.dscr.extdccmode ≠ m.code) :
    inMode m s o =
      .refused (if s.dscr.extdccmode = 0b11#2 then Refusal.reservedExtDccMode else Refusal.modeNotSelected) := by
  rw [inMode, if_neg h]
  split <;> rfl

/-- Sticky synchronous abort is tested before every other condition of a gated row (R133). -/
theorem gatedRow_aborted (hm : s.dscr.extdccmode = m.code) (ha : s.dscr.sdabortL = true) :
    inMode m s (if s.dscr.sdabortL then o₁ else o₂) = o₁ :=
  (inMode_selected hm).trans (if_pos ha)

@[inherit_doc gatedRow_aborted]
theorem gatedRow_open (hm : s.dscr.extdccmode = m.code) (ha : s.dscr.sdabortL = false) :
    inMode m s (if s.dscr.sdabortL then o₁ else o₂) = o₂ :=
  (inMode_selected hm).trans (if_neg (by simp [ha]))

end

/-! DBGDSCRext and DBGDRCR: the rows that no mode selects. -/

/-- Settles O17: bit [24] uses a free bit in normal state only. -/
theorem apbReadDscrCopiesLatches : Obligations.ApbReadDscrCopiesLatches := by
  intro s
  refine ⟨if inDebugState s then s.dscr.instrcompl else drawnBit s 0,
    if inDebugState s then s.draws else s.draws + 1, fun hd => ?debug, ?next⟩
  case debug =>
    have hdebug : inDebugState s = true := inDebugState_iff.mpr hd
    exact ⟨if_pos hdebug, if_pos hdebug⟩
  case next =>
    rw [exec, execApbRdDbgdscrext, viewExtApb]
    cases inDebugState s <;> rfl

/-- Settles O18: the data passes both tests of `write_dscr`, which makes the check of R162. -/
theorem apbWriteDscrWritesEightFields : Obligations.ApbWriteDscrWritesEightFields := by
  intro v s hreserved hmode
  have hwrite := writeDscr_accepted hreserved hmode
  rw [checkItren_eq] at hwrite
  rw [exec, execApbWrDbgdscrext, hwrite]
  rfl

theorem cleared_eq_ite (b c : Bool) : (b && !c) = if c then false else b := by
  cases c <;> simp

theorem raised_eq_ite (b c : Bool) : (b || c) = if c then true else b := by
  cases c <;> simp

/-- Settles O29: each of the three bits changes its own fields and is independent of the other two. -/
theorem drcrWriteClearsStickyBits : Obligations.DrcrWriteClearsStickyBits := by
  intro v s
  simp only [exec, execApbWrDbgdrcr, drcrClearsPipeadv, drcrClearsSticky, drcrRequestsHalt, cleared_eq_ite,
    raised_eq_ite, answer]

/-! DBGDTRRXext. -/

/-- Settles O19: the latch is the only test. -/
theorem nonblockingDtrrxWrite : Obligations.NonblockingDtrrxWrite := by
  intro v s hm
  refine (inMode_selected hm).trans ?_
  cases s.dscr.rxfullL <;> rfl

/-- Settles O20: the row is the Stall rule, which waits while DBGDTRRX is full. -/
theorem stallDtrrxWrite : Obligations.StallDtrrxWrite := by
  intro v s hm
  refine (inMode_selected hm).trans ?_
  cases hr : s.dscr.rxfull with
  | true => exact stallDtrrxWrite_full v hr
  | false => exact stallDtrrxWrite_empty v hr

/-- Settles O21: the gate of R133, then the three conditions together. -/
theorem fastDtrrxWrite : Obligations.FastDtrrxWrite := by
  intro v s hm
  refine ⟨fun ha => gatedRow_aborted hm ha, fun ha hc hr hi => ?ready, fun ha hn => ?notReady⟩
  case ready => exact (gatedRow_open hm ha).trans (if_pos (by simp [hc, hr, hi]))
  case notReady => exact (gatedRow_open hm ha).trans (if_neg (by simpa [and_assoc] using hn))

/-! DBGDTRTXext. -/

/-- Settles O22: a free value is used unless both flags are set. -/
theorem nonblockingDtrtxRead : Obligations.NonblockingDtrtxRead := by
  intro s hm
  have hrow : exec .apbRdDbgdtrtxextNonblocking s = Machine.nonblockingDtrtxRead s := inMode_selected hm
  rw [hrow]
  cases hl : s.dscr.txfullL with
  | true =>
    exact ⟨dtrtxData s, if s.dscr.txfull then s.draws else s.draws + 1, fun _ hf => by simp [dtrtxData, hf],
      nonblockingDtrtxRead_latch_set hl⟩
  | false => exact ⟨drawnWord s 0, s.draws + 1, nofun, nonblockingDtrtxRead_latch_clear hl⟩

/-- Settles O23: the row is the Stall rule, which waits while DBGDTRTX is empty. -/
theorem stallDtrtxRead : Obligations.StallDtrtxRead := by
  intro s hm
  refine (inMode_selected hm).trans ?_
  cases ht : s.dscr.txfull with
  | true => exact stallDtrtxRead_full ht
  | false => exact stallDtrtxRead_empty ht

/-- Settles O24: the gate of R133, then the three conditions together. -/
theorem fastDtrtxRead : Obligations.FastDtrtxRead := by
  intro s hm
  refine ⟨fun ha => ⟨drawnWord s 0, s.draws + 1, gatedRow_aborted hm ha⟩, fun ha hc ht hi => ?ready,
    fun ha hn => ?notReady⟩
  case ready => exact (gatedRow_open hm ha).trans (if_pos (by simp [hc, ht, hi]))
  case notReady => exact (gatedRow_open hm ha).trans (if_neg (by simpa [and_assoc] using hn))

/-! DBGITR. -/

/-- Settles O25: the gate of R133 and the latch give the same answer; bit [13] is tested after both. -/
theorem nonblockingItrWrite : Obligations.NonblockingItrWrite := by
  intro v s hm
  refine ⟨fun h => ?ignored, fun ha hl hi => ?refused, fun ha hl hi => ?ready⟩
  case ignored =>
    cases ha : s.dscr.sdabortL with
    | true => exact gatedRow_aborted hm ha
    | false => exact (gatedRow_open hm ha).trans (if_pos (by simpa [ha] using h))
  case refused =>
    exact (gatedRow_open hm ha).trans ((if_neg (by simp [hl])).trans (if_pos (by simp [hi])))
  case ready =>
    exact (gatedRow_open hm ha).trans ((if_neg (by simp [hl])).trans (if_neg (by simp [hi])))

/-- Settles O26: the row is the Stall rule, one clause for each of its branches. -/
theorem stallItrWrite : Obligations.StallItrWrite := by
  intro v s hm
  have hrow : exec (.apbWrDbgitrStall v) s = Machine.stallItrWrite v s := inMode_selected hm
  rw [hrow]
  exact ⟨stallItrWrite_aborted v, stallItrWrite_busy v, stallItrWrite_itren_clear v, stallItrWrite_ready v⟩

/-- Settles O27: the gate of R133, then InstrCompl. -/
theorem fastItrWrite : Obligations.FastItrWrite := by
  intro v s hm
  refine ⟨fun ha => gatedRow_aborted hm ha, fun ha hc => ?notReady, fun ha hc => ?ready⟩
  case notReady => exact (gatedRow_open hm ha).trans (if_pos (by simp [hc]))
  case ready => exact (gatedRow_open hm ha).trans (if_neg (by simp [hc]))

/-! Sticky synchronous abort (R133). -/

/-- A DTR access in a mode that issues nothing completes or waits, and leaves the processor and DBGITR alone. -/
theorem dtrAccess_keeps_cpu_itr {i : Instr} {m : DccMode} {s : State}
    (hi : (∃ v, i = .apbWrDbgdtrrxextNonblocking v ∨ i = .apbWrDbgdtrrxextStall v) ∨
      i = .apbRdDbgdtrtxextNonblocking ∨ i = .apbRdDbgdtrtxextStall)
    (hmode : i.dccMode = some m) (hm : s.dscr.extdccmode = m.code) :
    ∃ t, exec i s = .next t ∧ t.cpu = s.cpu ∧ t.dcc.itr = s.dcc.itr := by
  obtain ⟨v, rfl | rfl⟩ | rfl | rfl := hi <;> cases hmode
  · refine ⟨_, nonblockingDtrrxWrite v s hm, ?_⟩
    split <;> exact ⟨rfl, rfl⟩
  · refine ⟨_, stallDtrrxWrite v s hm, ?_⟩
    split <;> exact ⟨rfl, rfl⟩
  · obtain ⟨d, n, -, hexec⟩ := nonblockingDtrtxRead s hm
    refine ⟨_, hexec, ?_⟩
    split <;> exact ⟨rfl, rfl⟩
  · refine ⟨_, stallDtrtxRead s hm, ?_⟩
    split <;> exact ⟨rfl, rfl⟩

/-- Settles O28: five rows are gated and ignored, the other four issue nothing. -/
theorem stickySyncAbortGatesIssue : Obligations.StickySyncAbortGatesIssue := by
  intro i m s hi hm ha
  have hignored : ∀ d n, exec i s = .next { s with apbResult := some (.ignored d), draws := n } →
      (∃ t, exec i s = .next t ∧ t.cpu = s.cpu ∧ t.dcc.itr = s.dcc.itr) ∧
      ((m = .fast ∨ ∃ v, i = .apbWrDbgitrNonblocking v ∨ i = .apbWrDbgitrStall v) →
        ∃ d n, exec i s = .next { s with apbResult := some (.ignored d), draws := n }) :=
    fun d n h => ⟨⟨_, h, rfl, rfl⟩, fun _ => ⟨d, n, h⟩⟩
  cases i with
  | apbWrDbgdtrrxextFast | apbWrDbgitrNonblocking | apbWrDbgitrStall | apbWrDbgitrFast =>
    cases hi
    exact hignored none s.draws (gatedRow_aborted hm ha)
  | apbRdDbgdtrtxextFast =>
    cases hi
    exact hignored (some (drawnWord s 0)) (s.draws + 1) (gatedRow_aborted hm ha)
  | apbWrDbgdtrrxextNonblocking | apbWrDbgdtrrxextStall | apbRdDbgdtrtxextNonblocking | apbRdDbgdtrtxextStall =>
    cases hi
    exact ⟨dtrAccess_keeps_cpu_itr (by simp) rfl hm, by simp⟩
  | _ => cases hi

/-! The reserved mode and the modes that select another row (R84, R122, R136). -/

/-- With ExtDCCmode = b11 the decoder has no row for an access that a mode governs. -/
theorem decodeAccess_reservedMode {p : Config.Params} {i : Instr} {m : DccMode} {a : Access} (hp : OffsetsSeparate p)
    (hi : i.dccMode = some m) (ha : encode p i = .access a) :
    decodeAccess p 0b11#2 a = .error .reservedExtDccMode := by
  have hdecode : decode p 0b11#2 (encode p i) = decodeAccess p 0b11#2 a := congrArg _ ha
  rw [← hdecode]
  cases i with
  | apbWrDbgdtrrxextNonblocking v | apbWrDbgdtrrxextStall v | apbWrDbgdtrrxextFast v =>
    exact decode_writeAt_dtrrx hp v
  | apbRdDbgdtrtxextNonblocking | apbRdDbgdtrtxextStall | apbRdDbgdtrtxextFast => exact decode_readAt_dtrtx hp
  | apbWrDbgitrNonblocking v | apbWrDbgitrStall v | apbWrDbgitrFast v => exact decode_writeAt_itr hp v
  | _ => cases hi

/-- Settles O30: every mode-governed row runs inside `inMode`, and D6 leads its access to the table of the modes. -/
theorem unselectedModeRefusesAccesses : Obligations.UnselectedModeRefusesAccesses := by
  intro i m p s hi hp
  refine ⟨fun hm => ?_, fun a ha => decodeAccess_reservedMode (Config.Params.offsetsSeparate hp) hi ha⟩
  obtain ⟨o, hrow⟩ := exec_eq_inMode hi s
  rw [hrow, inMode_unselected hm]

/-! Nonblocking accesses: when each is ignored, and what its success says. -/

section
variable {s : State} (hm : s.dscr.extdccmode = 0b00#2) (v : Word)
include hm

theorem nonblockingDtrrxWrite_ignored_iff :
    (∃ u, exec (.apbWrDbgdtrrxextNonblocking v) s = .next u ∧ u.apbResult = some (.ignored none)) ↔
      s.dscr.rxfullL = true := by
  rw [nonblockingDtrrxWrite v s hm]
  cases s.dscr.rxfullL <;> simp

theorem nonblockingDtrtxRead_ignored_iff :
    (∃ u d, exec .apbRdDbgdtrtxextNonblocking s = .next u ∧ u.apbResult = some (.ignored (some d))) ↔
      s.dscr.txfullL = false := by
  obtain ⟨d, n, -, hexec⟩ := nonblockingDtrtxRead s hm
  rw [hexec]
  cases s.dscr.txfullL <;> simp

/-- Where the latch is set and no abort is pending, the write is refused or succeeds: it is not ignored. -/
theorem nonblockingItrWrite_ignored_iff :
    (∃ u, exec (.apbWrDbgitrNonblocking v) s = .next u ∧ u.apbResult = some (.ignored none)) ↔
      s.dscr.sdabortL = true ∨ s.dscr.instrcomplL = false := by
  obtain ⟨hignored, hrefused, hready⟩ := nonblockingItrWrite v s hm
  refine ⟨fun ⟨u, hu, hr⟩ => ?_, fun h => ⟨_, hignored h, rfl⟩⟩
  by_contra h
  obtain ⟨ha, hl⟩ : s.dscr.sdabortL = false ∧ s.dscr.instrcomplL = true := by simpa using h
  cases hi : s.dscr.itren with
  | false => rw [hrefused ha hl hi] at hu; cases hu
  | true =>
    rw [hready ha hl hi] at hu
    cases hu
    cases hr

end

/-- The word that an APB read of DBGDSCRext returns shows the latches the read leaves, bit [24] in debug state only; the
mode and Sticky synchronous abort are as before (R120, R41). -/
theorem apbReadDscr_shows_latches {s t : State} {v : Word} (ht : exec .apbRdDbgdscrext s = .next t)
    (hv : t.apbResult = some (.ok (some v))) :
    v.getLsbD 27 = t.dscr.rxfullL ∧ v.getLsbD 26 = t.dscr.txfullL ∧
      (s.cpu.dbg ≠ .normal → v.getLsbD 24 = t.dscr.instrcomplL) ∧
      t.dscr.extdccmode = s.dscr.extdccmode ∧ t.dscr.sdabortL = s.dscr.sdabortL := by
  obtain ⟨d24, n, hd24, hread⟩ := apbReadDscrCopiesLatches s
  cases hread.symm.trans ht
  cases hv
  obtain ⟨-, -, -, -, h27, h26, -, h24, -⟩ := viewBitAssignment s s.dscr.rxfull s.dscr.txfull d24
  refine ⟨h27, h26, fun hd => ?_, rfl, rfl⟩
  obtain ⟨rfl, -⟩ := hd24 hd
  exact h24

/-- Settles O31: the word shows the latches, and the next access tests them. -/
theorem dscrReadPredictsIgnoredAccesses : Obligations.DscrReadPredictsIgnoredAccesses := by
  intro s t v w hm ht hv
  obtain ⟨h27, h26, h24, hmode, habort⟩ := apbReadDscr_shows_latches ht hv
  rw [h27, h26, nonblockingDtrrxWrite_ignored_iff (hmode.trans hm), nonblockingDtrtxRead_ignored_iff (hmode.trans hm),
    nonblockingItrWrite_ignored_iff (hmode.trans hm)]
  refine ⟨Iff.rfl, Iff.rfl, fun hd ha => ?_⟩
  rw [h24 hd, habort, ha]
  simp

/-- No Nonblocking row waits for its condition (R137). -/
theorem exec_nonblocking_not_stalled {i : Instr} (h : i.dccMode = some .nonblocking) (s : State) :
    Ensures (exec i s) (·.apbResult ≠ some .stalled) := by
  cases i with
  | apbWrDbgdtrrxextNonblocking v =>
    exact ensures_inMode (ensures_ite (ensures_next.mpr nofun) (ensures_next.mpr nofun))
  | apbRdDbgdtrtxextNonblocking =>
    exact ensures_inMode (ensures_ite (ensures_next.mpr nofun) (ensures_next.mpr nofun))
  | apbWrDbgitrNonblocking v =>
    exact ensures_inMode
      (ensures_ite (ensures_next.mpr nofun)
        (ensures_ite (ensures_next.mpr nofun) (ensures_ite (ensures_refused _) (ensures_next.mpr nofun))))
  | _ => cases h

section
variable {s t : State}

theorem nonblockingDtrrxWrite_ok {v : Word} (ht : exec (.apbWrDbgdtrrxextNonblocking v) s = .next t)
    (hok : t.apbResult = some (.ok none)) : s.dscr.rxfullL = false := by
  obtain ⟨hm, -⟩ := inMode_next ht
  rw [← Bool.not_eq_true, ← nonblockingDtrrxWrite_ignored_iff hm v]
  rintro ⟨u, hu, hr⟩
  cases ht.symm.trans hu
  cases hok.symm.trans hr

theorem nonblockingItrWrite_ok {v : Word} (ht : exec (.apbWrDbgitrNonblocking v) s = .next t)
    (hok : t.apbResult = some (.ok none)) : s.dscr.instrcomplL = true := by
  obtain ⟨hm, -⟩ := inMode_next ht
  rw [← Bool.not_eq_false]
  intro hl
  obtain ⟨u, hu, hr⟩ := (nonblockingItrWrite_ignored_iff hm v).mpr (.inr hl)
  cases ht.symm.trans hu
  cases hok.symm.trans hr

/-- With (I2) the read that finds its latch set finds DBGDTRTX full. -/
theorem nonblockingDtrtxRead_ok {d : Option Word} (hsound : txLatchSound s = true)
    (ht : exec .apbRdDbgdtrtxextNonblocking s = .next t) (hok : t.apbResult = some (.ok d)) :
    d = some s.dcc.dtrtx ∧ t.draws = s.draws := by
  obtain ⟨-, hrun⟩ := inMode_next ht
  obtain ⟨-, rfl⟩ | ⟨-, -, rfl⟩ | ⟨hlatch, hempty, -⟩ := nonblockingDtrtxRead_next hrun
  · cases hok
  · cases hok
    exact ⟨rfl, rfl⟩
  · simp [txLatchSound, hlatch, hempty] at hsound

end

/-- Settles O32: a success says what its latch was, and the invariant what the latch says of the flag. -/
theorem nonblockingAccessesAreSafe : Obligations.NonblockingAccessesAreSafe := by
  intro s t
  refine ⟨fun i hi ht => exec_nonblocking_not_stalled hi s t ht, fun hs v => ?writes,
    fun hsound d ht hok => nonblockingDtrtxRead_ok hsound ht hok⟩
  obtain ⟨hrx, hcompl, hidle, -⟩ := handshake_iff.mp hs
  refine ⟨fun ht hok => ?_, fun ht hok => hidle (hcompl (nonblockingItrWrite_ok ht hok))⟩
  simpa [nonblockingDtrrxWrite_ok ht hok] using hrx

end Sys2Proof.Machine.Apb
end

section
/-!
SUPPORT. The statements of 42_hardware_updates.md about one event (R150 to R160). `applyEvent` asks for the event's
precondition and then lets it happen, so each proof needs two facts: the precondition in the words of its rule
(`enabled_…_iff`), and the state the event leaves, which is its definition or one of the equations of Laws/Ops.
-/

namespace Sys2Proof.Machine

variable {s t : State} {e : Event}

theorem applyEvent_next (hen : enabled e s = true) (heffect : happen e s = .next t) : applyEvent e s = .next t :=
  (applyEvent_enabled hen).trans heffect

/-- An event whose precondition is `P` and whose effect is `t`, as the one conditional outcome. -/
theorem applyEvent_eq_ite {P : Prop} [Decidable P] (hen : enabled e s = true ↔ P) (heffect : happen e s = .next t) :
    applyEvent e s = if P then .next t else .fault (.notEnabled e) := by
  split
  · next hP => exact applyEvent_next (hen.mpr hP) heffect
  · next hP => exact applyEvent_not_enabled (mt hen.mp hP)

/-! The preconditions. -/

theorem enabled_itrIdle_iff (s : State) : enabled .itrIdle s = true ↔
    s.params.instrcomplTracksIdle = true ∧ itrBusy s = false ∧ s.dscr.instrcompl = false := by
  simp [enabled, and_assoc]

/-- The request of DBGDRCR[0] is the one cause that has to be raised first (R153, log 42). -/
theorem enabled_enterDebugState_iff (c : Cause) (s : State) : enabled (.enterDebugState c) s = true ↔
    s.cpu.dbg = .normal ∧ mayHalt s c = true ∧ (c = .haltRequest → s.haltRequest = true) := by
  simp [enabled, inDebugState, and_assoc, imp_iff_not_or]

theorem enabled_restartRequest_iff (s : State) : enabled .restartRequest s = true ↔
    s.cpu.dbg = .halted ∧ itrBusy s = false := by
  simp [enabled]

theorem enabled_exitDebugState_iff (s : State) : enabled .exitDebugState s = true ↔ s.cpu.dbg = .exiting := by
  simp [enabled]

/-! Retirement and completion. -/

/-- Settles O33: `Retire` has no precondition, the other two have that of R151 and of R152. -/
theorem retirementAndCompletionEvents : Obligations.RetirementAndCompletionEvents := by
  intro s
  exact ⟨rfl, applyEvent_eq_ite Iff.rfl rfl, applyEvent_eq_ite (enabled_itrIdle_iff s) rfl⟩

/-! Entry to debug state. -/

/-- Entry takes up a pending request when that is its cause, and leaves it pending otherwise (R153, log 42). -/
theorem enterDebug_eq (c : Cause) (s : State) :
    enterDebug c s =
      { s with
        cpu := { s.cpu with dbg := .halted }
        dscr := { s.dscr with moe := moeCode c }
        haltRequest := if c = .haltRequest then false else s.haltRequest } := by
  by_cases hc : c = .haltRequest <;> simp [enterDebug, hc]

/-- The default policy of D28: DBGEN HIGH for the halting debug events, Halting debug-mode for the other causes. -/
theorem mayHalt_default_iff (c : Cause) (hpolicy : s.params.haltPolicy = Config.Params.defaults.haltPolicy) :
    mayHalt s c = true ↔ s.pins.dbgen = true ∧ (c = .haltRequest ∨ c = .externalRequest ∨ s.dscr.hdbgen = true) := by
  cases c <;> simp [mayHalt, haltCondition, hpolicy, Config.Params.defaults, haltingMode, holdsIn, stateBit]

/-- Settles O34: the event, the bound that every policy has, and the default policy. -/
theorem enterDebugStateReportsCause : Obligations.EnterDebugStateReportsCause := by
  intro c s
  exact ⟨applyEvent_eq_ite (enabled_enterDebugState_iff c s) (congrArg Host.Outcome.next (enterDebug_eq c s)),
    mayHalt_dbgen, mayHalt_default_iff c⟩

/-! Exit from debug state. -/

/-- Once the status is Normal, the check of R162 finds exactly bit [13]. -/
theorem leaveDebug_eq (s : State) :
    leaveDebug s =
      { s with
        cpu := { s.cpu with dbg := .normal, pc := drawnWord s 0 }
        faults := { s.faults with itrenOutsideDebugState := s.faults.itrenOutsideDebugState || s.dscr.itren }
        draws := s.draws + 1 } := by
  simp [leaveDebug, checkItren, jumpAnywhere, useDraws, drawnWord, itrenOutsideDebugState_eq]

/-- Settles O35: the restart request and the exit have preconditions that no state meets together. -/
theorem leavingDebugStateTakesTwoEvents : Obligations.LeavingDebugStateTakesTwoEvents := by
  intro s
  refine ⟨applyEvent_eq_ite (enabled_restartRequest_iff s) rfl, fun hexiting => ⟨drawnWord s 0, s.draws + 1, ?_⟩,
    fun hother => applyEvent_not_enabled (mt (enabled_exitDebugState_iff s).mp hother)⟩
  exact applyEvent_next ((enabled_exitDebugState_iff s).mpr hexiting) (congrArg Host.Outcome.next (leaveDebug_eq s))

/-! Exceptions in debug state. -/

/-- Settles O36: debug state is the precondition of all three; the first two end the issued instruction. -/
theorem debugStateExceptionsSetStickyBits : Obligations.DebugStateExceptionsSetStickyBits := by
  intro s
  refine ⟨fun hdebug => ?debug, fun hnormal => ?normal⟩
  case debug =>
    have hen : inDebugState s = true := inDebugState_iff.mpr hdebug
    exact ⟨applyEvent_next hen (congrArg Host.Outcome.next (undefinedInDebug_eq s)),
      applyEvent_next hen (congrArg Host.Outcome.next (syncAbortInDebug_eq s)), applyEvent_next hen rfl⟩
  case normal =>
    have hen : ¬inDebugState s = true := fun h => inDebugState_iff.mp h hnormal
    exact ⟨applyEvent_not_enabled hen, applyEvent_not_enabled hen, applyEvent_not_enabled hen⟩

/-! Status and signals. -/

/-- Settles O37: both events are always enabled, and `ns` reads the new security state and mode. -/
theorem statusAndSignalChangesStoreNothing : Obligations.StatusAndSignalChangesStoreNothing := by
  intro s n m level
  have hsignal (sig : Signal) : applyEvent (.signalChange sig level) s = .next (changeSignal sig level s) :=
    applyEvent_enabled rfl
  exact ⟨applyEvent_enabled rfl, rfl, hsignal .dbgen, hsignal .niden, hsignal .spiden, hsignal .spniden⟩

end Sys2Proof.Machine
end

section
/-!
SUPPORT. The statements of 70_reset_and_hazards.md: what `Reset(proc, dbg)` leaves (R200), and the word read from the
reset state (R201). `Reset` is its processor part, its register part and the check of R162, one after the other: the
fields of each part come first, then the two event theorems put them together.
-/

namespace Sys2Proof.Machine

/-! The two parts of `Reset`, one lemma for each field. For the processor part `rfl` would compare the drawn registers
with the old ones first, so its lemmas unfold it instead. -/

section
variable (s : State)

@[simp] theorem resetProcessor_dscr : (resetProcessor s).dscr = s.dscr := by
  simp only [resetProcessor, useDraws_dscr]
@[simp] theorem resetProcessor_dcc : (resetProcessor s).dcc = s.dcc := by
  simp only [resetProcessor, useDraws_dcc]
@[simp] theorem resetProcessor_pins : (resetProcessor s).pins = s.pins := by
  simp only [resetProcessor, useDraws_pins]
@[simp] theorem resetProcessor_haltRequest : (resetProcessor s).haltRequest = s.haltRequest := by
  simp only [resetProcessor, useDraws_haltRequest]
@[simp] theorem resetProcessor_apbResult : (resetProcessor s).apbResult = s.apbResult := by
  simp only [resetProcessor, useDraws_apbResult]
@[simp] theorem resetProcessor_stalledAccess : (resetProcessor s).stalledAccess = s.stalledAccess := by
  simp only [resetProcessor, useDraws_stalledAccess]
@[simp] theorem resetProcessor_faults : (resetProcessor s).faults = s.faults := by
  simp only [resetProcessor, useDraws_faults]
@[simp] theorem resetProcessor_agenda : (resetProcessor s).agenda = s.agenda := by
  simp only [resetProcessor, useDraws_agenda]
@[simp] theorem resetProcessor_params : (resetProcessor s).params = s.params := by
  simp only [resetProcessor, useDraws_params]

/-- The security state is drawn in Monitor mode only, where bit [18] reads 0 whatever it is (R23). -/
theorem ns_resetProcessor : ns (resetProcessor s) = false := by
  by_cases hmode : drawnMode s 0 = .monitor <;> simp [ns, resetProcessor, hmode]

theorem resetProcessor_status :
    (resetProcessor s).cpu.dbg = .normal ∧ itrBusy (resetProcessor s) = false ∧ ns (resetProcessor s) = false ∧
      (resetProcessor s).cpu.result = s.cpu.result :=
  ⟨by simp [resetProcessor], by simp [itrBusy, resetProcessor], ns_resetProcessor s, by simp [resetProcessor]⟩

@[simp] theorem resetDebug_dscr :
    (resetDebug s).dscr = { Dscr.reset with rxfullL := drawnBit s 0, txfullL := drawnBit s 1 } := rfl
@[simp] theorem resetDebug_cpu : (resetDebug s).cpu = s.cpu := rfl
@[simp] theorem resetDebug_pins : (resetDebug s).pins = s.pins := rfl
@[simp] theorem resetDebug_haltRequest : (resetDebug s).haltRequest = s.haltRequest := rfl
@[simp] theorem resetDebug_apbResult : (resetDebug s).apbResult = s.apbResult := rfl
@[simp] theorem resetDebug_stalledAccess :
    (resetDebug s).stalledAccess = if s.stalledAccess = some .dtrtxRead then some .dtrtxReadEnded else s.stalledAccess :=
  map_afterReset_eq s.stalledAccess
@[simp] theorem resetDebug_faults : (resetDebug s).faults = s.faults := rfl
@[simp] theorem resetDebug_agenda : (resetDebug s).agenda = s.agenda := rfl
@[simp] theorem resetDebug_params : (resetDebug s).params = s.params := rfl

end

/-! `Reset` itself: each part writes its own fields. -/

/-- The processor part is the only one that writes the processor. -/
theorem reset_cpu (p d : Bool) (s : State) :
    (reset p d s).cpu = if p then (resetProcessor s).cpu else s.cpu := by
  cases p <;> cases d <;> simp [reset]

/-- The register part is the only one that writes the register; its draws come after those of the processor part. -/
theorem reset_register_dscr (p : Bool) (s : State) :
    ∃ a b, (reset p true s).dscr = { Dscr.reset with rxfullL := a, txfullL := b } :=
  ⟨_, _, resetDebug_dscr (if p then resetProcessor s else s)⟩

theorem reset_processor_dcc (p : Bool) (s : State) : (reset p false s).dcc = s.dcc := by
  cases p <;> simp [reset]

theorem reset_processor_stalledAccess (p : Bool) (s : State) :
    (reset p false s).stalledAccess = s.stalledAccess := by
  cases p <;> simp [reset]

/-- A reset of the register ends the stall of a read (R128). -/
theorem reset_register_stalledAccess (p : Bool) (s : State) :
    (reset p true s).stalledAccess =
      if s.stalledAccess = some .dtrtxRead then some .dtrtxReadEnded else s.stalledAccess := by
  cases p <;> simp [reset]

/-- What neither part writes. -/
theorem reset_frame (p d : Bool) (s : State) :
    (reset p d s).pins = s.pins ∧ (reset p d s).haltRequest = s.haltRequest ∧
      (reset p d s).apbResult = s.apbResult ∧ (reset p d s).agenda = s.agenda ∧ (reset p d s).params = s.params := by
  cases p <;> cases d <;> simp [reset]

/-- The check of R162 comes last, and neither part records a fault before it. -/
theorem reset_eq_checkItren (p d : Bool) (s : State) :
    ∃ u, reset p d s = checkItren u ∧ u.faults = s.faults := by
  refine ⟨_, rfl, ?_⟩
  cases p <;> cases d <;> simp

/-- Recorded faults stay, and the one fault a reset can add is that of the check of R162, made in the state it leaves. -/
theorem reset_faults (p d : Bool) (s : State) :
    (reset p d s).faults.dtrTxWriteWhileFull = s.faults.dtrTxWriteWhileFull ∧
      (reset p d s).faults.itrenOutsideDebugState = (s.faults.itrenOutsideDebugState ||
        ((reset p d s).dscr.itren && decide ((reset p d s).cpu.dbg = .normal))) := by
  obtain ⟨u, hreset, hfaults⟩ := reset_eq_checkItren p d s
  simp only [hreset, checkItren_eq, hfaults, and_self]

/-- Settles O5: a reset of either part is enabled, and each part writes its own fields. -/
theorem resetEventRestoresFields : Obligations.ResetEventRestoresFields := by
  intro p d s hpart
  obtain ⟨hpins, hhalt, hresult, hagenda, hparams⟩ := reset_frame p d s
  have hcpu := reset_cpu p d s
  refine ⟨reset p d s, applyEvent_enabled hpart, fun hp => ?processor, fun hp => ?processorKept, fun hd => ?register,
    fun hd => ?registerKept, hpins, hhalt, hresult, fun hd => ?stallKept, fun hd => ?stall, hagenda, hparams,
    reset_faults p d s⟩
  case processor =>
    have hcpu : (reset p d s).cpu = (resetProcessor s).cpu := by rw [hcpu, if_pos hp]
    simpa only [itrBusy, ns, hcpu] using resetProcessor_status s
  case processorKept => simpa [hp] using hcpu
  case register => exact hd ▸ reset_register_dscr p s
  case registerKept => exact hd ▸ ⟨reset_processor_dscr p s, reset_processor_dcc p s⟩
  case stallKept => exact hd ▸ reset_processor_stalledAccess p s
  case stall => exact hd ▸ reset_register_stalledAccess p s

/-! The word read after reset. -/

/-- The word of R41 in the reset state: restarted (bit [1]) is 1, the two authentication bits follow the signals, and
the three supplied bits are as given. Bits [15] and [14] are 0 at any level of DBGEN, since none is programmed. -/
theorem viewWord_reset (p : Pins) (b27 b26 b24 : Bool) :
    let s : State := { State.reset with pins := p }
    viewWord s b27 b26 b24 =
      2#32 ||| (if spniddis s then 0x20000#32 else 0#32) ||| (if spiddis s then 0x10000#32 else 0#32)
        ||| (if b24 then 0x1000000#32 else 0#32) ||| (if b27 then 0x8000000#32 else 0#32)
        ||| (if b26 then 0x4000000#32 else 0#32) := by
  intro s
  have hrunning : adadiscard s = false ∧ ns s = false ∧ restarted s = true ∧ halted s = false := ⟨rfl, rfl, rfl, rfl⟩
  obtain ⟨hdiscard, hns, hrestarted, hhalted⟩ := hrunning
  have hdscr : s.dscr = Dscr.reset := rfl
  simp only [viewWord, hdiscard, hns, hrestarted, hhalted, hdscr, Dscr.reset, Bool.and_false]
  generalize spniddis s = bit17
  generalize spiddis s = bit16
  revert b27 b26 b24 bit17 bit16
  decide

/-- Settles O4: outside debug state both external views supply the drawn bit [24], and RXfull and TXfull, which are 0,
as bits [27] and [26]. -/
theorem resetReadWord : Obligations.ResetReadWord := by
  intro p d27 d26 d24 s w
  have hexternal : viewWord s false false d24 = w := by
    simpa [w, s] using viewWord_reset p false false d24
  exact ⟨hexternal, hexternal, viewWord_reset p d27 d26 d24⟩

end Sys2Proof.Machine
end
